-- ==== Sys2Proof/Word.lean ====
section
/-! DEFINITION. The word types of the Forpeg 3208: bytes on the port, values of Now, periods. -/

namespace Sys2Proof

/-- A byte of a frame (R170). -/
abbrev Byte := BitVec 8

/-- A value of Now, or a number of ticks added to one: every such sum is taken modulo 2^32 (R29, R31). -/
abbrev Time := BitVec 32

/-- A period as three bytes carry it, 0 to 16,777,215 (R4, R181). -/
abbrev Period := BitVec 24

/-- A period as a number of ticks that is added to a value of Now (R31). -/
abbrev ticks (p : Period) : Time := p.setWidth 32

end Sys2Proof
end

