-- ==== Sys2Proof/Syntax.lean ====
section
/-! DEFINITION. The commands of the block, one constructor for each row of spec/opcode_table.json.

A request constructor stands for the end (the rising edge of CSN) of a good frame that carries the request: `seq` is the
frame's SEQ and the other arguments are the body's items at their widths on the wire (R171, R180, R181), so that a value out of
range can be sent and is refused by the block that owns the request. -/

namespace Sys2Proof

/-- A handle, a slot number and a generation (R2). -/
structure Handle where
  slot : Fin 256
  gen : Byte
deriving DecidableEq, Repr

/-- The body of DEFINE (R181). -/
structure DefineBody where
  kind : Byte
  periodA : Period
  periodB : Period
  repeatCount : BitVec 16
  priority : Byte
  notify : Byte
  consequence : Byte
  holdPolicy : Byte
  tag : BitVec 16
deriving DecidableEq, Repr

/-- The body of MODIFY after its handle (R180). -/
structure ModifyBody where
  presence : BitVec 16
  priority : Byte
  notify : Byte
  consequence : Byte
  holdPolicy : Byte
  tag : BitVec 16
  periodA : Period
  periodB : Period
  repeatCount : BitVec 16
  mode : Byte
deriving DecidableEq, Repr

/-- The body of ROUTE (R180): `item` is the level, *invert* or the operator. -/
structure RouteBody where
  output : Byte
  safeLevel : Byte
  sourceType : Byte
  item : Byte
  a : Handle
  b : Handle
deriving DecidableEq, Repr

/-- The commands: the rows of spec/opcode_table.json in the table's order. -/
inductive Instr
  /-- POWER_ON (R146): the supply comes up with PWARN and RSTN at these levels (true: asserted). -/
  | powerOn (pwarn rstn : Bool)
  /-- SUPPLY_LOST (R155). -/
  | supplyLost
  /-- RSTN_ASSERTED (R146, R188). -/
  | rstnAsserted
  /-- RSTN_RELEASED (R188). -/
  | rstnReleased
  /-- LOADING_COMPLETE (R147): bit n of `levels` is the level line n is sampled at in that REFCLK cycle (R99). -/
  | loadingComplete (levels : BitVec 8)
  /-- PWARN_ASSERTED (R151, R154). -/
  | pwarnAsserted
  /-- PWARN_WITHDRAWN (R154). -/
  | pwarnWithdrawn
  /-- HOLD_SAVE_COMPLETE (R153). -/
  | holdSaveComplete
  /-- CHECKPOINT_COMPLETE (R161). -/
  | checkpointComplete
  /-- TICK (R27, R29, R32). -/
  | tick
  /-- EXPIRY (R40): the expiry of the first record of the due order, whose due has come. -/
  | expiry
  /-- HRST_PULSE_END (R85). -/
  | hrstPulseEnd
  /-- CANDIDATE_ACCEPTED (R100, R101). -/
  | candidateAccepted (line : Fin 8)
  /-- IGNORED_FRAME (R170, R173 test 1). -/
  | ignoredFrame
  /-- EMPTY_FRAME (R173 test 2). -/
  | emptyFrame
  /-- STARTING (R173 test 3): a frame of these bytes ends that met LOADING. -/
  | starting (bytes : List Byte)
  /-- FRAME_ERROR (R174): a bad frame of these bytes ends. -/
  | frameError (bytes : List Byte)
  /-- DUPLICATE (R175): a good frame ends whose SEQ is the last-executed SEQ. -/
  | duplicate (seq code : Byte) (body : List Byte)
  /-- BAD_REQUEST (R176 step 1): a good frame ends with an unknown CODE or a LEN wrong for its CODE. -/
  | badRequest (seq code : Byte) (body : List Byte)
  /-- NOP (R184). -/
  | nop (seq : Byte)
  /-- STATUS (R185). -/
  | status (seq : Byte)
  /-- CLEAR (R186). -/
  | clear (seq : Byte)
  /-- DEFINE (R8, R9, R181). -/
  | define (seq : Byte) (d : DefineBody)
  /-- RETIRE (R10, R11). -/
  | retire (seq : Byte) (h : Handle)
  /-- QUERY (R12, R182). -/
  | query (seq : Byte) (h : Handle)
  /-- FIND (R13). -/
  | find (seq : Byte) (tag start : BitVec 16)
  /-- MODIFY (R15 to R22). -/
  | modify (seq : Byte) (h : Handle) (m : ModifyBody)
  /-- SET_TICK (R28). -/
  | setTick (seq period : Byte)
  /-- START (R44). -/
  | start (seq : Byte) (h : Handle)
  /-- STOP (R46). -/
  | stop (seq : Byte) (h : Handle)
  /-- RESTART (R48). -/
  | restart (seq : Byte) (h : Handle)
  /-- PAUSE (R50). -/
  | pause (seq : Byte) (h : Handle)
  /-- CONTINUE (R51). -/
  | continueRecord (seq : Byte) (h : Handle)
  /-- RENEW (R65, R66). -/
  | renew (seq : Byte) (h : Handle)
  /-- JOIN (R89). -/
  | join (seq : Byte) (h : Handle) (group : Byte)
  /-- LEAVE (R90). -/
  | leave (seq : Byte) (h : Handle)
  /-- GROUP_START (R92, R93). -/
  | groupStart (seq group restartRunning : Byte)
  /-- GROUP_STOP (R94). -/
  | groupStop (seq group : Byte)
  /-- GROUP_PAUSE (R95). -/
  | groupPause (seq group : Byte)
  /-- GROUP_CONTINUE (R96). -/
  | groupContinue (seq group : Byte)
  /-- SET_LINE (R102). -/
  | setLine (seq line edgeSelect filterWidth : Byte)
  /-- BIND (R105). -/
  | bind (seq : Byte) (h : Handle) (line action : Byte)
  /-- UNBIND (R106). -/
  | unbind (seq : Byte) (h : Handle)
  /-- ROUTE (R117, R118). -/
  | route (seq : Byte) (r : RouteBody)
  /-- SAFE (R125). -/
  | safe (seq : Byte)
  /-- RELEASE (R126). -/
  | release (seq : Byte)
  /-- FETCH (R136). -/
  | fetch (seq : Byte)
  /-- SET_ATTN (R140). -/
  | setAttn (seq threshold : Byte)
  /-- CHECKPOINT (R160). -/
  | checkpoint (seq : Byte)
  /-- RESUME (R164): 0xFFFFFFFF is UNKNOWN (R180). -/
  | resume (seq : Byte) (outage : BitVec 32)
  /-- DISCARD (R165). -/
  | discard (seq : Byte)
  /-- SAMPLED_LEVEL_CHANGE (R100): the line is sampled at this level. -/
  | sampledLevelChange (line : Fin 8) (level : Bool)
  /-- CSN_FALLING_EDGE (R170): `soon` says that CSN was high for less than 2 µs since the last frame. -/
  | csnFallingEdge (soon : Bool)
  /-- STORE_CONTENTS_LOST (R147). -/
  | storeContentsLost
deriving DecidableEq, Repr

end Sys2Proof
end

