-- ==== Sys2Proof/Machine/Types.lean ====
section
/-! DEFINITION. The data the seven blocks hold: records, routes, notification entries, images, frames of the port. Plain data:
inductive types for the named sets of the manual, structures for its tables of fields. -/

namespace Sys2Proof.Machine

/-! ### Records (R4 to R6) -/

/-- Kind (R4, R5). -/
inductive Kind
  | oneshot | cadence | supervise | window
deriving DecidableEq, Repr

/-- Phase (R4). -/
inductive Phase
  | a | b
deriving DecidableEq, Repr

/-- The two states in which a record times, and so the two values of Resume state (R4, R6). -/
inductive Run
  | running | lapsed
deriving DecidableEq, Repr

/-- State with the fields R4 makes present in it: a record is IDLE, RUNNING or LAPSED (`active`) with Phase start and Due,
PAUSED or PARKED with Resume state and Remaining. Phase is present in every state but IDLE. -/
inductive Timing
  | idle
  | active (run : Run) (phase : Phase) (start due : Time)
  | paused (resume : Run) (phase : Phase) (remaining : Time)
  | parked (resume : Run) (phase : Phase) (remaining : Time)
deriving DecidableEq, Repr

/-- State as an image holds it: a RUNNING or LAPSED record carries Remaining in place of Due and Phase start (R157). -/
inductive SavedTiming
  | idle
  | active (run : Run) (phase : Phase) (remaining : Time)
  | paused (resume : Run) (phase : Phase) (remaining : Time)
deriving DecidableEq, Repr

/-- Notify set, a subset of PHASE and CYCLE (R4). -/
structure Notify where
  phase : Bool
  cycle : Bool
deriving DecidableEq, Repr

/-- Consequence (R4, R82). -/
inductive Consequence
  | notify | safe | safeAndReset
deriving DecidableEq, Repr

/-- Hold policy (R4). -/
inductive HoldPolicy
  | stretch | catchup
deriving DecidableEq, Repr

/-- The action of a Trigger (R104). -/
inductive Action
  | start | renew | restart
deriving DecidableEq, Repr

/-- Trigger (R104). -/
structure Trigger where
  line : Fin 8
  action : Action
deriving DecidableEq, Repr

/-- Pending update (R17): the fields staged. It is absent when no field is (R4: a nonempty selection). -/
structure Pending where
  periodA : Option Period
  periodB : Option Period
  repeatCount : Option (BitVec 16)
deriving DecidableEq, Repr

/-- A record's fields (R4), with its state held as `τ`. Period B, Repeat count and Miss count of a kind that has no such field
are held as 0 and are never read as present (R5, R12). Signal is derived (R7). -/
structure RecordOf (τ : Type) where
  kind : Kind
  timing : τ
  periodA : Period
  periodB : Period
  repeatCount : BitVec 16
  cyclesLeft : Option (BitVec 16)
  pending : Pending
  priority : Fin 8
  notify : Notify
  consequence : Consequence
  holdPolicy : HoldPolicy
  tag : BitVec 16
  trigger : Option Trigger
  group : Option (Fin 16)
  missCount : BitVec 8
deriving DecidableEq, Repr

/-- A record of the table. -/
abbrev Record := RecordOf Timing

/-- A record of an image. -/
abbrev SavedRecord := RecordOf SavedTiming

/-- A slot: its generation and, when it is not FREE, its record (R1). -/
structure Slot where
  gen : Byte
  record : Option Record
deriving DecidableEq, Repr

/-- A slot of an image (R157). -/
structure SavedSlot where
  gen : Byte
  record : Option SavedRecord
deriving DecidableEq, Repr

/-! ### Timebase -/

/-- Tick period (R27). -/
inductive TickPeriod
  | us10 | us100 | ms1 | ms10
deriving DecidableEq, Repr

/-- What the timebase owns: Now, the tick period, the REFCLK cycles counted in the present tick, the hold counter (R27, R29,
R32). The due order is a function of the records and Now (R34, R35). -/
structure Timebase where
  now : Time
  tickPeriod : TickPeriod
  divider : Nat
  holdCounter : Nat
deriving DecidableEq, Repr

/-! ### Lines (R99) -/

/-- Edge select (R99). -/
inductive EdgeSelect
  | none | rise | fall | both
deriving DecidableEq, Repr

/-- The configuration of a line, the part an image holds (R157). -/
structure LineConfig where
  edgeSelect : EdgeSelect
  filterWidth : Fin 16
deriving DecidableEq, Repr

/-- A candidate: a level and the REFCLK cycle it starts at (R99). -/
structure Candidate where
  level : Bool
  start : Nat
deriving DecidableEq, Repr

/-- An input line (R99). -/
structure Line where
  config : LineConfig
  level : Bool
  candidate : Option Candidate
deriving DecidableEq, Repr

/-- What the line unit owns. Bit n of the ignored-edge set is line n (R113, R183). -/
structure LineUnit where
  lines : Vector Line 8
  ignored : BitVec 8
deriving DecidableEq, Repr

/-! ### Outputs (R115, R124) -/

/-- The operator of a PAIR (R115, R116). -/
inductive PairOp
  | and | or | nand | nor
deriving DecidableEq, Repr

/-- The source of a route (R115). -/
inductive Source
  | static (level : Bool)
  | record (h : Handle) (invert : Bool)
  | pair (a b : Handle) (op : PairOp)
deriving DecidableEq, Repr

/-- An entry of the route table (R115). -/
structure Route where
  source : Source
  safeLevel : Bool
deriving DecidableEq, Repr

/-- The cause of the safe state (R124). -/
inductive Cause
  | handle (h : Handle)
  | host
deriving DecidableEq, Repr

/-- What the output unit owns: the route table, the safe state (none: clear), and the HRST pulse (none: idle; some n: in
progress, n REFCLK cycles counted) (R85, R115, R124). -/
structure OutputUnit where
  routes : Vector Route 16
  safe : Option Cause
  hrst : Option Nat
deriving DecidableEq, Repr

/-! ### Notifications (R129 to R131) -/

/-- Occurrence kinds, in the order of the kind set's bits (R129, R183). -/
inductive Occurrence
  | phase | cycle | complete | miss | early | recovered
deriving DecidableEq, Repr

/-- Where an image came from (R157). -/
inductive Origin
  | holdSave | checkpoint
deriving DecidableEq, Repr

/-- Reason of COLD_START (R131). -/
inductive ColdReason
  | noImage | discarded
deriving DecidableEq, Repr

/-- Origin of a reconciliation (R166). -/
inductive ResumeOrigin
  | brownout | resume
deriving DecidableEq, Repr

/-- Reason of CHECKPOINT_ABANDONED (R131). -/
inductive AbandonReason
  | power | clear
deriving DecidableEq, Repr

/-- The seven system kinds (R131). -/
inductive SystemKind
  | coldStart | restored | resumed | checkpointDone | checkpointAbandoned | safeEntered | resetIssued
deriving DecidableEq, Repr

/-- A system posting: its kind with that kind's fields (R131). -/
inductive SystemInfo
  | coldStart (reason : ColdReason)
  | restored (generation : BitVec 32) (origin : Origin) (savedNow : Time) (parked lost : Nat)
  | resumed (held : Nat) (origin : ResumeOrigin) (ignored : BitVec 8) (visited : Nat)
  | checkpointDone (generation : BitVec 32)
  | checkpointAbandoned (reason : AbandonReason)
  | safeEntered (cause : Cause)
  | resetIssued (cause : Handle)
deriving DecidableEq, Repr

/-- What an entry is: a record entry with its handle, tag, priority and kind set, or a system entry (R130, R131). -/
inductive EntryContent
  | record (h : Handle) (tag : BitVec 16) (priority : Fin 8) (kinds : BitVec 6)
  | system (info : SystemInfo)
deriving DecidableEq, Repr

/-- A notification entry (R130, R131). -/
structure Entry where
  content : EntryContent
  count : BitVec 8
  firstAt : Time
  lastAt : Time
deriving DecidableEq, Repr

/-- What the notification queue block owns: the entries, oldest first, and the ATTN threshold (R132, R140). -/
structure NotificationQueue where
  entries : List Entry
  threshold : Fin 9
deriving DecidableEq, Repr

/-! ### Power and retention (R146, R156, R157) -/

/-- The power states, in R146's order. -/
inductive PowerState
  | loading | recovered | run | hold | parked
deriving DecidableEq, Repr

/-- An image: every header item but the CRC-32, and the body (R157). -/
structure Image where
  generation : BitVec 32
  origin : Origin
  savedNow : Time
  tickPeriod : TickPeriod
  threshold : Fin 9
  safe : Option Cause
  recordCount : Nat
  queueSize : Nat
  slots : Vector SavedSlot 256
  routes : Vector Route 16
  lines : Vector LineConfig 8
deriving DecidableEq, Repr

/-- An image as written, with the CRC-32 item of its header (R157). -/
structure StoredImage where
  image : Image
  crc : BitVec 32
deriving DecidableEq, Repr

/-- A bank of the retention store (R156). -/
structure Bank where
  marker : Bool
  content : Option StoredImage
deriving DecidableEq, Repr

/-- What the power and retention unit holds of a valid bank (R147, R156). -/
structure BankInfo where
  generation : BitVec 32
  origin : Origin
deriving DecidableEq, Repr

/-- The checkpoint in flight (R160). -/
structure CheckpointInFlight where
  bank : Fin 2
  generation : BitVec 32
  snapshot : Image
deriving DecidableEq, Repr

/-- The save in flight (R151). -/
structure SaveInFlight where
  bank : Fin 2
  generation : BitVec 32
deriving DecidableEq, Repr

/-- What the power and retention unit owns: the power state, the levels of PWARN and RSTN (true: asserted), the two banks of
the store, what it holds of each bank (none: invalid), and the writes in flight. -/
structure PowerUnit where
  power : PowerState
  pwarn : Bool
  rstn : Bool
  store : Vector Bank 2
  banks : Vector (Option BankInfo) 2
  checkpoint : Option CheckpointInFlight
  save : Option SaveInFlight
deriving DecidableEq, Repr

/-! ### Host port (R172, R173, R179) -/

/-- Status codes (R179). -/
inductive Status
  | done | accepted | badRequest | badField | badHandle | badKind | badState | tableFull | inUse | queueEmpty | busy
  | blocked | holding | notResumed | starting | frameError
deriving DecidableEq, Repr

/-- A response frame: LEN is the body's length and the CRC is computed from the rest (R172). -/
structure Response where
  seq : Byte
  status : Status
  body : List Byte
deriving DecidableEq, Repr

/-- The frame in progress: whether its CSN fell within 2 µs of the last frame's end, whether it met LOADING, and the bytes SDO
carries, the held response as it stood at the fall of CSN (R170, R173). -/
structure Frame where
  ignored : Bool
  metLoading : Bool
  sdo : List Byte
deriving DecidableEq, Repr

/-- What the host port owns (10_the_host_port.md, opening): the last-executed SEQ and response, the held response, and the
frame in progress while CSN is low. -/
structure HostPort where
  lastSeq : Option Byte
  lastResponse : Option Response
  held : Response
  frame : Option Frame
deriving DecidableEq, Repr

/-- How a renewal was judged (R66). -/
inductive RenewOutcome
  | good | recovered | early
deriving DecidableEq, Repr

end Sys2Proof.Machine
end

