-- ==== Sys2Proof/Config.lean ====
section
/-! DEFINITION. What the part fixes, and the values the manual leaves open, as constants with no body. -/

namespace Sys2Proof.Config

/-- The hold counter stays at this value once it reaches it, and a RESUME outage is at most this (R32, R164). -/
def holdMax : Nat := 1073741823

/-- The horizon, the longest period (R31). -/
def horizon : Nat := 16777215

/-- REFCLK cycles of an HRST pulse (R85). -/
def hrstCycles : Nat := 8000

/-- REFCLK cycles in a µs of filter width: the line is sampled every 250 ns (R100). -/
def cyclesPerMicrosecond : Nat := 4

/-- The greatest bank generation (R157, R158). -/
def maxGeneration : BitVec 32 := 0xFFFFFFFF#32

/-- FREE VALUE. The bytes of an image's body and of the other items of its header in the order in which they are written. The
manual computes the CRC-32 over them (R147) and gives them no layout (log 11). -/
opaque imageBytes : Machine.Image → List Byte

/-- FREE VALUE. The n-th byte of a route entry in a ROUTE response that the entry's source type does not use (R180, log 12). -/
opaque freeByte : Nat → Byte

end Sys2Proof.Config
end

