-- ==== Sys2Proof/Decode.lean ====
section
/-! DEFINITION. The bytes of request frames (R170, R171, R174, R180, R181): CRC-8 and CRC-32, big-endian fields, the table of
request codes, the judgement of a frame's bytes, the decoder of a frame into a command, and the encoder of a request into its
frame. `decodeTableWord`, the host's question about the opcode table's bits: the table gives no row any bits. -/

namespace Sys2Proof

/-! ### Bytes of fields, most significant byte first (R170) -/

/-- The two bytes of a 16-bit field. -/
def bytes16 (x : BitVec 16) : List Byte := [x.extractLsb' 8 8, x.extractLsb' 0 8]

/-- The three bytes of a 24-bit field. -/
def bytes24 (x : BitVec 24) : List Byte := [x.extractLsb' 16 8, x.extractLsb' 8 8, x.extractLsb' 0 8]

/-- The four bytes of a 32-bit field. -/
def bytes32 (x : BitVec 32) : List Byte :=
  [x.extractLsb' 24 8, x.extractLsb' 16 8, x.extractLsb' 8 8, x.extractLsb' 0 8]

/-- The two bytes of a handle, slot first and generation second (R180). -/
def bytesHandle (h : Handle) : List Byte := [BitVec.ofNat 8 h.slot.val, h.gen]

/-- The 16-bit field that two bytes carry. -/
def word16 (a b : Byte) : BitVec 16 := a ++ b

/-- The 24-bit field that three bytes carry. -/
def word24 (a b c : Byte) : BitVec 24 := a ++ b ++ c

/-- The 32-bit field that four bytes carry. -/
def word32 (a b c d : Byte) : BitVec 32 := a ++ b ++ c ++ d

/-- The handle that two bytes carry. -/
def handleOf (s g : Byte) : Handle := ⟨⟨s.toNat, s.isLt⟩, g⟩

/-! ### Checks -/

/-- One bit of the CRC-8: the polynomial x^8 + x^2 + x + 1, most significant bit first (R171). -/
def crc8Shift (r : Byte) : Byte := if r.msb then (r <<< 1) ^^^ 0x07#8 else r <<< 1

/-- One byte taken into the CRC-8 register (R171). -/
def crc8Byte (r b : Byte) : Byte := Nat.repeat crc8Shift 8 (r ^^^ b)

/-- The CRC-8 of the port: the register starts at 0xFF and is not inverted at the end (R171). -/
def crc8 (bytes : List Byte) : Byte := bytes.foldl crc8Byte 0xFF#8

/-- One bit of the CRC-32 with the polynomial of R147, most significant bit first. -/
def crc32Shift (r : BitVec 32) : BitVec 32 := if r.msb then (r <<< 1) ^^^ 0x04C11DB7#32 else r <<< 1

/-- One byte taken into the CRC-32 register (R147). -/
def crc32Byte (r : BitVec 32) (b : Byte) : BitVec 32 := Nat.repeat crc32Shift 8 (r ^^^ (b.setWidth 32 <<< 24))

/-- The CRC-32 of images: the register starts at 0xFFFFFFFF and is not inverted at the end (R147). -/
def crc32 (bytes : List Byte) : BitVec 32 := bytes.foldl crc32Byte 0xFFFFFFFF#32

/-! ### Judging a frame's bytes -/

/-- The reason of a bad frame (R174). -/
inductive FrameDefect
  | crc
  | short
  | length
deriving DecidableEq, Repr

/-- The reason byte of FRAME_ERROR: 0 for CRC, 1 for SHORT, 2 for LENGTH (R174). -/
def FrameDefect.code : FrameDefect → Byte
  | .crc => 0
  | .short => 1
  | .length => 2

/-- What is wrong with a frame's bytes, in the order R174 judges it; none for a good frame. A frame is complete when it holds
at least 4 + LEN bytes, and bytes after the CRC byte are ignored (R171). -/
def frameDefect : List Byte → Option FrameDefect
  | seq :: code :: len :: rest =>
    if 32 < len.toNat then some .length
    else if rest.length < len.toNat + 1 then some .short
    else if rest[len.toNat]? = some (crc8 (seq :: code :: len :: rest.take len.toNat)) then none
    else some .crc
  | _ => some .short

/-- The request codes and their body lengths, in the order of R180's table. -/
def requestTable : List (Byte × Nat) :=
  [(0x00, 0), (0x01, 0), (0x02, 0),
   (0x10, 15), (0x11, 2), (0x12, 2), (0x13, 4), (0x14, 19), (0x18, 1),
   (0x20, 2), (0x21, 2), (0x22, 2), (0x23, 2), (0x24, 2), (0x28, 2)] ++
  [(0x30, 3), (0x31, 2), (0x32, 2), (0x33, 1), (0x34, 1), (0x35, 1),
   (0x40, 3), (0x41, 4), (0x42, 2), (0x48, 8), (0x49, 0), (0x4A, 0),
   (0x50, 0), (0x51, 1), (0x58, 0), (0x59, 4), (0x5A, 0)]

/-- The body length R180 gives for a code; none for a code that is not a request code. -/
def requestLength (code : Byte) : Option Nat := requestTable.lookup code

/-- DEFINE's body read from its 15 bytes (R181). -/
def decodeDefine (seq : Byte) : List Byte → Option Instr
  | [k, a2, a1, a0, b2, b1, b0, r1, r0, p, n, c, h, t1, t0] =>
    some (.define seq
      { kind := k, periodA := word24 a2 a1 a0, periodB := word24 b2 b1 b0, repeatCount := word16 r1 r0,
        priority := p, notify := n, consequence := c, holdPolicy := h, tag := word16 t1 t0 })
  | _ => none

/-- MODIFY's body read from its 19 bytes (R180). -/
def decodeModify (seq : Byte) : List Byte → Option Instr
  | [s, g, f1, f0, p, n, c, h, t1, t0, a2, a1, a0, b2, b1, b0, r1, r0, m] =>
    some (.modify seq (handleOf s g)
      { presence := word16 f1 f0, priority := p, notify := n, consequence := c, holdPolicy := h, tag := word16 t1 t0,
        periodA := word24 a2 a1 a0, periodB := word24 b2 b1 b0, repeatCount := word16 r1 r0, mode := m })
  | _ => none

/-- ROUTE's body read from its 8 bytes (R180). -/
def decodeRoute (seq : Byte) : List Byte → Option Instr
  | [o, l, t, i, as, ag, bs, bg] =>
    some (.route seq
      { output := o, safeLevel := l, sourceType := t, item := i, a := handleOf as ag, b := handleOf bs bg })
  | _ => none

/-- A request without a body. -/
def decodeEmpty (i : Instr) : List Byte → Option Instr
  | [] => some i
  | _ => none

/-- A request whose body is a handle. -/
def decodeHandle (f : Handle → Instr) : List Byte → Option Instr
  | [s, g] => some (f (handleOf s g))
  | _ => none

/-- A request whose body is one byte. -/
def decodeByte (f : Byte → Instr) : List Byte → Option Instr
  | [b] => some (f b)
  | _ => none

/-- FIND's body: tag and start slot. -/
def decodeFind (seq : Byte) : List Byte → Option Instr
  | [t1, t0, s1, s0] => some (.find seq (word16 t1 t0) (word16 s1 s0))
  | _ => none

/-- JOIN's body: handle and group. -/
def decodeJoin (seq : Byte) : List Byte → Option Instr
  | [s, g, x] => some (.join seq (handleOf s g) x)
  | _ => none

/-- GROUP_START's body: group and option. -/
def decodeGroupStart (seq : Byte) : List Byte → Option Instr
  | [x, o] => some (.groupStart seq x o)
  | _ => none

/-- SET_LINE's body: line, edge select and filter width. -/
def decodeSetLine (seq : Byte) : List Byte → Option Instr
  | [l, e, w] => some (.setLine seq l e w)
  | _ => none

/-- BIND's body: handle, line and action. -/
def decodeBind (seq : Byte) : List Byte → Option Instr
  | [s, g, l, a] => some (.bind seq (handleOf s g) l a)
  | _ => none

/-- RESUME's body: the outage. -/
def decodeResume (seq : Byte) : List Byte → Option Instr
  | [a, b, c, d] => some (.resume seq (word32 a b c d))
  | _ => none

/-- The request that CODE and the body carry; none when CODE is unknown or LEN is wrong for it (R176 step 1, R180). -/
def decodeRequest (seq code : Byte) (body : List Byte) : Option Instr :=
  match code with
  | 0x00#8 => decodeEmpty (.nop seq) body
  | 0x01#8 => decodeEmpty (.status seq) body
  | 0x02#8 => decodeEmpty (.clear seq) body
  | 0x10#8 => decodeDefine seq body
  | 0x11#8 => decodeHandle (.retire seq) body
  | 0x12#8 => decodeHandle (.query seq) body
  | 0x13#8 => decodeFind seq body
  | 0x14#8 => decodeModify seq body
  | 0x18#8 => decodeByte (.setTick seq) body
  | 0x20#8 => decodeHandle (.start seq) body
  | 0x21#8 => decodeHandle (.stop seq) body
  | 0x22#8 => decodeHandle (.restart seq) body
  | 0x23#8 => decodeHandle (.pause seq) body
  | 0x24#8 => decodeHandle (.continueRecord seq) body
  | 0x28#8 => decodeHandle (.renew seq) body
  | 0x30#8 => decodeJoin seq body
  | 0x31#8 => decodeHandle (.leave seq) body
  | 0x32#8 => decodeGroupStart seq body
  | 0x33#8 => decodeByte (.groupStop seq) body
  | 0x34#8 => decodeByte (.groupPause seq) body
  | 0x35#8 => decodeByte (.groupContinue seq) body
  | 0x40#8 => decodeSetLine seq body
  | 0x41#8 => decodeBind seq body
  | 0x42#8 => decodeHandle (.unbind seq) body
  | 0x48#8 => decodeRoute seq body
  | 0x49#8 => decodeEmpty (.safe seq) body
  | 0x4A#8 => decodeEmpty (.release seq) body
  | 0x50#8 => decodeEmpty (.fetch seq) body
  | 0x51#8 => decodeByte (.setAttn seq) body
  | 0x58#8 => decodeEmpty (.checkpoint seq) body
  | 0x59#8 => decodeResume seq body
  | 0x5A#8 => decodeEmpty (.discard seq) body
  | _ => none

/-- The command that a frame of these bytes is when it ends, as far as its bytes alone tell (R173 tests 2, 4 and 6, R176
step 1). Whether the frame was ignored, met LOADING or is a duplicate is the state's to say, and each command's meaning tests
it. -/
def decodeFrame (bytes : List Byte) : Instr :=
  match bytes with
  | [] => .emptyFrame
  | _ =>
    match frameDefect bytes, bytes with
    | none, seq :: code :: len :: rest =>
      (decodeRequest seq code (rest.take len.toNat)).getD (.badRequest seq code (rest.take len.toNat))
    | _, _ => .frameError bytes

/-- SEQ, CODE and body of a request (R180, R181); none for a command that is not a request. -/
def requestFields : Instr → Option (Byte × Byte × List Byte)
  | .nop seq => some (seq, 0x00, [])
  | .status seq => some (seq, 0x01, [])
  | .clear seq => some (seq, 0x02, [])
  | .define seq d => some (seq, 0x10,
      [d.kind] ++ bytes24 d.periodA ++ bytes24 d.periodB ++ bytes16 d.repeatCount ++
      [d.priority, d.notify, d.consequence, d.holdPolicy] ++ bytes16 d.tag)
  | .retire seq h => some (seq, 0x11, bytesHandle h)
  | .query seq h => some (seq, 0x12, bytesHandle h)
  | .find seq tag start => some (seq, 0x13, bytes16 tag ++ bytes16 start)
  | .modify seq h m => some (seq, 0x14,
      bytesHandle h ++ bytes16 m.presence ++ [m.priority, m.notify, m.consequence, m.holdPolicy] ++ bytes16 m.tag ++
      bytes24 m.periodA ++ bytes24 m.periodB ++ bytes16 m.repeatCount ++ [m.mode])
  | .setTick seq p => some (seq, 0x18, [p])
  | .start seq h => some (seq, 0x20, bytesHandle h)
  | .stop seq h => some (seq, 0x21, bytesHandle h)
  | .restart seq h => some (seq, 0x22, bytesHandle h)
  | .pause seq h => some (seq, 0x23, bytesHandle h)
  | .continueRecord seq h => some (seq, 0x24, bytesHandle h)
  | .renew seq h => some (seq, 0x28, bytesHandle h)
  | .join seq h g => some (seq, 0x30, bytesHandle h ++ [g])
  | .leave seq h => some (seq, 0x31, bytesHandle h)
  | .groupStart seq g o => some (seq, 0x32, [g, o])
  | .groupStop seq g => some (seq, 0x33, [g])
  | .groupPause seq g => some (seq, 0x34, [g])
  | .groupContinue seq g => some (seq, 0x35, [g])
  | .setLine seq l e w => some (seq, 0x40, [l, e, w])
  | .bind seq h l a => some (seq, 0x41, bytesHandle h ++ [l, a])
  | .unbind seq h => some (seq, 0x42, bytesHandle h)
  | .route seq r => some (seq, 0x48,
      [r.output, r.safeLevel, r.sourceType, r.item] ++ bytesHandle r.a ++ bytesHandle r.b)
  | .safe seq => some (seq, 0x49, [])
  | .release seq => some (seq, 0x4A, [])
  | .fetch seq => some (seq, 0x50, [])
  | .setAttn seq t => some (seq, 0x51, [t])
  | .checkpoint seq => some (seq, 0x58, [])
  | .resume seq o => some (seq, 0x59, bytes32 o)
  | .discard seq => some (seq, 0x5A, [])
  | .powerOn _ _ | .supplyLost | .rstnAsserted | .rstnReleased | .loadingComplete _ | .pwarnAsserted | .pwarnWithdrawn
  | .holdSaveComplete | .checkpointComplete | .tick | .expiry | .hrstPulseEnd | .candidateAccepted _ | .ignoredFrame
  | .emptyFrame | .starting _ | .frameError _ | .duplicate _ _ _ | .badRequest _ _ _ | .sampledLevelChange _ _
  | .csnFallingEdge _ | .storeContentsLost => none

/-- A frame of SEQ, CODE or STATUS, LEN and body, closed by its CRC (R171, R172). -/
def frameBytes (seq second : Byte) (body : List Byte) : List Byte :=
  let front := seq :: second :: BitVec.ofNat 8 body.length :: body
  front ++ [crc8 front]

/-- The bytes of the frame that carries a request; none for a command that is not a request. -/
def encodeFrame (i : Instr) : Option (List Byte) :=
  (requestFields i).map fun f => frameBytes f.1 f.2.1 f.2.2

/-- The command that a word spells by the opcode table's bits: no row of spec/opcode_table.json has any. -/
def decodeTableWord (_nbits _w : Nat) : Option Instr := none

end Sys2Proof
end

