-- ==== Sys2Proof/Machine/State.lean ====
section
/-! DEFINITION. The state of the part as plain data, its reasons to stop, and the state right after reset. -/

namespace Sys2Proof.Machine

/-- Reasons to stop with a fault. There is none: the spec gives every command an effect in every state, or names an event that
cannot occur there and then nothing happens (log 6). -/
inductive Fault
deriving DecidableEq, Repr

/-- Reasons a command has no meaning. -/
inductive Refusal
  /-- Raised by exec's arm for a command whose meaning has not been written; no arm of this model raises it. Safe: the machine
  stops where the part goes on. -/
  | notModelled (mnemonic : String)
deriving DecidableEq, Repr

/-- The state: what each of the seven blocks owns (00_scope.md, "Blocks"), the main supply, and the model's own three fields. -/
structure State where
  /-- RT: the 256 slots (R1). -/
  slots : Vector Slot 256
  /-- TD. -/
  td : Timebase
  /-- LU. -/
  lu : LineUnit
  /-- OU. -/
  ou : OutputUnit
  /-- NQ. -/
  nq : NotificationQueue
  /-- PR. -/
  pr : PowerUnit
  /-- HP. -/
  hp : HostPort
  /-- Whether the main supply is present (R146, R147). -/
  supply : Bool
  /-- The model's own: the number of REFCLK cycles that have passed, the clock of candidate starts (R99, log 3). -/
  refclk : Nat
  /-- The model's own: how many free values have been taken (log 12). -/
  freeCount : Nat
  /-- The model's own: the commands that are waiting, first in, first out. -/
  pending : List Instr
deriving DecidableEq, Repr

/-- A FREE slot of generation 0 (R23). -/
def freeSlot : Slot := ⟨0, none⟩

/-- A route's cold value: STATIC 0 with safe level 0 (R115). -/
def coldRoute : Route := ⟨.static false, false⟩

/-- A line's cold configuration: edge select NONE, filter width 0 (R99). -/
def coldLine : LineConfig := ⟨.none, 0⟩

/-- A bank that holds nothing: no valid marker, no image. -/
def emptyBank : Bank := ⟨false, none⟩

/-- Right after reset: the supply is up and LOADING has just begun (R146, R177); what LOADING will replace holds the values of
a cold start (R149), and the rest the values of log 1, log 2 and log 3. -/
def State.reset : State :=
  { slots := Vector.replicate 256 freeSlot
    td := { now := 0, tickPeriod := .ms1, divider := 0, holdCounter := 0 }
    lu := { lines := Vector.replicate 8 ⟨coldLine, false, none⟩, ignored := 0 }
    ou := { routes := Vector.replicate 16 coldRoute, safe := none, hrst := none }
    nq := { entries := [], threshold := 0 }
    pr := { power := .loading, pwarn := false, rstn := false, store := Vector.replicate 2 emptyBank,
            banks := Vector.replicate 2 none, checkpoint := none, save := none }
    hp := { lastSeq := none, lastResponse := none, held := ⟨0, .starting, []⟩, frame := none }
    supply := true
    refclk := 0
    freeCount := 0
    pending := [] }

end Sys2Proof.Machine
end

