-- ==== Sys2Proof/Machine/Operands.lean ====
section
/-! DEFINITION. Operand forms: which value a byte of a request's body stands for (none: out of range, refused with BAD_FIELD),
and which byte a value is carried as in a response. Enumerated values are numbered from 0 in the order their rule lists them,
and yes-or-no values are 0 for no and 1 for yes (R180). -/

namespace Sys2Proof.Machine

/-! ### Bytes of requests -/

/-- The number below `n` that a byte carries. -/
def finOf (n : Nat) (b : Byte) : Option (Fin n) := if h : b.toNat < n then some ⟨b.toNat, h⟩ else none

/-- Kind (R181). -/
def kindOf (b : Byte) : Option Kind :=
  match b.toNat with
  | 0 => some .oneshot
  | 1 => some .cadence
  | 2 => some .supervise
  | 3 => some .window
  | _ => none

/-- Notify set: bit 0 PHASE, bit 1 CYCLE, the other bits zero (R181). -/
def notifyOf (b : Byte) : Option Notify := if b.toNat < 4 then some ⟨b.getLsbD 0, b.getLsbD 1⟩ else none

/-- Consequence (R181). -/
def consequenceOf (b : Byte) : Option Consequence :=
  match b.toNat with
  | 0 => some .notify
  | 1 => some .safe
  | 2 => some .safeAndReset
  | _ => none

/-- Hold policy (R181). -/
def holdPolicyOf (b : Byte) : Option HoldPolicy :=
  match b.toNat with
  | 0 => some .stretch
  | 1 => some .catchup
  | _ => none

/-- Tick period, in R27's order. -/
def tickPeriodOf (b : Byte) : Option TickPeriod :=
  match b.toNat with
  | 0 => some .us10
  | 1 => some .us100
  | 2 => some .ms1
  | 3 => some .ms10
  | _ => none

/-- Trigger action (R182). -/
def actionOf (b : Byte) : Option Action :=
  match b.toNat with
  | 0 => some .start
  | 1 => some .renew
  | 2 => some .restart
  | _ => none

/-- Edge select, in R99's order. -/
def edgeSelectOf (b : Byte) : Option EdgeSelect :=
  match b.toNat with
  | 0 => some .none
  | 1 => some .rise
  | 2 => some .fall
  | 3 => some .both
  | _ => none

/-- A level, or a yes-or-no value: 0 or 1. -/
def boolOf (b : Byte) : Option Bool :=
  match b.toNat with
  | 0 => some false
  | 1 => some true
  | _ => none

/-- The operator of a PAIR, in R115's order. -/
def pairOpOf (b : Byte) : Option PairOp :=
  match b.toNat with
  | 0 => some .and
  | 1 => some .or
  | 2 => some .nand
  | 3 => some .nor
  | _ => none

/-! ### What a kind admits (R4, R5) -/

/-- The kinds that have a Period B. -/
def Kind.hasPeriodB : Kind → Bool
  | .cadence | .window => true
  | .oneshot | .supervise => false

/-- The kind that has a Repeat count. -/
def Kind.hasRepeat : Kind → Bool
  | .cadence => true
  | .oneshot | .supervise | .window => false

/-- The kinds that have a Miss count, may carry any consequence and can be renewed. -/
def Kind.supervises : Kind → Bool
  | .supervise | .window => true
  | .oneshot | .cadence => false

/-- The Notify sets a kind admits: none for ONESHOT and SUPERVISE, any for CADENCE, no CYCLE for WINDOW. -/
def Kind.admitsNotify (k : Kind) (n : Notify) : Bool :=
  match k with
  | .oneshot | .supervise => !n.phase && !n.cycle
  | .cadence => true
  | .window => !n.cycle

/-- The consequences a kind admits: NOTIFY alone for ONESHOT and CADENCE. -/
def Kind.admitsConsequence (k : Kind) (c : Consequence) : Bool := k.supervises || c == .notify

/-! ### Bytes of responses -/

/-- A level or a yes-or-no value. -/
def boolCode (b : Bool) : Byte := if b then 1 else 0

/-- Kind (R181). -/
def Kind.code : Kind → Byte
  | .oneshot => 0
  | .cadence => 1
  | .supervise => 2
  | .window => 3

/-- Phase (R182). -/
def Phase.code : Phase → Byte
  | .a => 0
  | .b => 1

/-- Resume state: RUNNING 1, LAPSED 3, as the state it is (R182). -/
def Run.code : Run → Byte
  | .running => 1
  | .lapsed => 3

/-- State (R182); STOP's response carries it in the same numbers (log 13). -/
def Timing.code : Timing → Byte
  | .idle => 0
  | .active run _ _ _ => run.code
  | .paused _ _ _ => 2
  | .parked _ _ _ => 4

/-- Notify set (R181). -/
def Notify.code (n : Notify) : Byte := boolCode n.phase ||| (boolCode n.cycle <<< 1)

/-- Consequence (R181). -/
def Consequence.code : Consequence → Byte
  | .notify => 0
  | .safe => 1
  | .safeAndReset => 2

/-- Hold policy (R181). -/
def HoldPolicy.code : HoldPolicy → Byte
  | .stretch => 0
  | .catchup => 1

/-- Trigger action (R182). -/
def Action.code : Action → Byte
  | .start => 0
  | .renew => 1
  | .restart => 2

/-- Tick period, in R27's order. -/
def TickPeriod.code : TickPeriod → Byte
  | .us10 => 0
  | .us100 => 1
  | .ms1 => 2
  | .ms10 => 3

/-- REFCLK cycles in one tick (R27). -/
def TickPeriod.cycles : TickPeriod → Nat
  | .us10 => 40
  | .us100 => 400
  | .ms1 => 4000
  | .ms10 => 40000

/-- The operator of a PAIR, in R115's order. -/
def PairOp.code : PairOp → Byte
  | .and => 0
  | .or => 1
  | .nand => 2
  | .nor => 3

/-- Origin of an image (R183). -/
def Origin.code : Origin → Byte
  | .holdSave => 0
  | .checkpoint => 1

/-- Origin of a reconciliation (R183). -/
def ResumeOrigin.code : ResumeOrigin → Byte
  | .brownout => 0
  | .resume => 1

/-- Reason of COLD_START (R183). -/
def ColdReason.code : ColdReason → Byte
  | .noImage => 0
  | .discarded => 1

/-- Reason of CHECKPOINT_ABANDONED (R183). -/
def AbandonReason.code : AbandonReason → Byte
  | .power => 0
  | .clear => 1

/-- Outcome of RENEW, in R66's order. -/
def RenewOutcome.code : RenewOutcome → Byte
  | .good => 0
  | .recovered => 1
  | .early => 2

/-- Power state, in R146's order (log 13). -/
def PowerState.code : PowerState → Byte
  | .loading => 0
  | .recovered => 1
  | .run => 2
  | .hold => 3
  | .parked => 4

/-- An input or output that R140 or R185 names asserted or withdrawn (deasserted), in that order: asserted 0 (log 13). -/
def assertedCode (asserted : Bool) : Byte := if asserted then 0 else 1

/-- Status codes (R179). -/
def Status.code : Status → Byte
  | .done => 0x00
  | .accepted => 0x01
  | .badRequest => 0x10
  | .badField => 0x11
  | .badHandle => 0x12
  | .badKind => 0x13
  | .badState => 0x14
  | .tableFull => 0x15
  | .inUse => 0x16
  | .queueEmpty => 0x17
  | .busy => 0x18
  | .blocked => 0x19
  | .holding => 0x20
  | .notResumed => 0x21
  | .starting => 0x22
  | .frameError => 0x30

/-- The bit of an occurrence in the kind set (R183). -/
def Occurrence.bit : Occurrence → BitVec 6
  | .phase => 0b000001
  | .cycle => 0b000010
  | .complete => 0b000100
  | .miss => 0b001000
  | .early => 0b010000
  | .recovered => 0b100000

/-- The kind of a system posting (R131). -/
def SystemInfo.kind : SystemInfo → SystemKind
  | .coldStart _ => .coldStart
  | .restored _ _ _ _ _ => .restored
  | .resumed _ _ _ _ => .resumed
  | .checkpointDone _ => .checkpointDone
  | .checkpointAbandoned _ => .checkpointAbandoned
  | .safeEntered _ => .safeEntered
  | .resetIssued _ => .resetIssued

/-- A count carried in two bytes (R180). -/
def count16 (n : Nat) : List Byte := bytes16 (BitVec.ofNat 16 n)

/-- An item that may be *none*: one byte 0 or 1 before its own `width` bytes, which are 0 when it is *none* (R180). -/
def optional (width : Nat) : Option (List Byte) → List Byte
  | some bs => 1 :: bs
  | none => 0 :: List.replicate width 0

/-- A cause: type 0 and the handle, type 1 for host with handle 0, type 2 for *none* and for a clear safe state (R180, R183). -/
def causeBytes : Option Cause → List Byte
  | some (.handle h) => 0 :: bytesHandle h
  | some .host => [1, 0, 0]
  | none => [2, 0, 0]

/-- A Trigger: its line and its action (R180). -/
def triggerBytes (t : Trigger) : List Byte := [BitVec.ofNat 8 t.line.val, t.action.code]

/-- A route entry, carried as the ROUTE body carries it from the safe level to handle b (R180). `free` gives the bytes that
the source type does not use (log 12). -/
def routeBytes (r : Route) (free : Nat → Byte) : List Byte :=
  match r.source with
  | .static level => [boolCode r.safeLevel, 0, boolCode level, free 0, free 1, free 2, free 3]
  | .record h invert => [boolCode r.safeLevel, 1, boolCode invert] ++ bytesHandle h ++ [free 0, free 1]
  | .pair a b op => [boolCode r.safeLevel, 2, op.code] ++ bytesHandle a ++ bytesHandle b

end Sys2Proof.Machine
end

