-- ==== Sys2Proof/Machine/Flags.lean ====
section
/-! DEFINITION. The derived levels: a record's Signal, a route's value, the level each output drives, HRST, ATTN and SDO. None
is stored: each is a function of the state (R7, R116, R120, R141, R170, log 14). -/

namespace Sys2Proof.Machine

/-- The state of a slot's record as the tables of R6 name it. -/
inductive RecordState
  | idle | running | paused | lapsed | parked
deriving DecidableEq, Repr

/-- The State field (R4, R6). -/
def Timing.state : Timing → RecordState
  | .idle => .idle
  | .active .running _ _ _ => .running
  | .active .lapsed _ _ _ => .lapsed
  | .paused _ _ _ => .paused
  | .parked _ _ _ => .parked

/-- Signal (R7): 1 for a RUNNING ONESHOT or SUPERVISE record, and for a RUNNING CADENCE or WINDOW record in phase B. -/
def RecordOf.signal (r : Record) : Bool :=
  match r.timing with
  | .active .running phase _ _ =>
    match r.kind with
    | .oneshot | .supervise => true
    | .cadence | .window => phase == .b
  | _ => false

/-- The record a handle names: its slot is not FREE and its generation is the slot's (R2). -/
def State.recordOf (s : State) (h : Handle) : Option Record :=
  if s.slots[h.slot].gen = h.gen then s.slots[h.slot].record else none

/-- The Signal of the record a handle names; 0 when it names none (no route does, R119). -/
def State.signalOf (s : State) (h : Handle) : Bool :=
  match s.recordOf h with
  | some r => r.signal
  | none => false

/-- The operators of a PAIR (R116). -/
def PairOp.apply : PairOp → Bool → Bool → Bool
  | .and, x, y => x && y
  | .or, x, y => x || y
  | .nand, x, y => !(x && y)
  | .nor, x, y => !(x || y)

/-- A source's route value (R116). -/
def State.routeValue (s : State) : Source → Bool
  | .static level => level
  | .record h invert => s.signalOf h ^^ invert
  | .pair a b op => op.apply (s.signalOf a) (s.signalOf b)

/-- The driven level of an output (R120): 0 in LOADING, the safe level in RECOVERED, HOLD and PARKED and while the safe state
is set, the route value in RUN while it is clear. -/
def State.driven (s : State) (o : Fin 16) : Bool :=
  match s.pr.power with
  | .loading => false
  | .run => if s.ou.safe.isSome then s.ou.routes[o].safeLevel else s.routeValue s.ou.routes[o].source
  | .recovered | .hold | .parked => s.ou.routes[o].safeLevel

/-- The level of HRST: low while a pulse is in progress (R85). -/
def State.hrstHigh (s : State) : Bool := s.ou.hrst.isNone

/-- The priority of an entry: its own for a record entry, 8 for a system entry (R130, R131). -/
def Entry.priority (e : Entry) : Nat :=
  match e.content with
  | .record _ _ priority _ => priority.val
  | .system _ => 8

/-- ATTN is asserted exactly when the power state is not LOADING and the queue holds an entry whose priority is at least the
threshold (R141). DESIGN CHOICE: R141 does not speak of a lost supply. This is the rule's condition on what the part holds, which stands
through the dark (log 19) and drives nothing there; State.attnPin is what the line carries (log 7). -/
def State.attn (s : State) : Bool :=
  s.pr.power != .loading && s.nq.entries.any fun e => s.nq.threshold.val ≤ e.priority

/-- What the pin of an output carries: its driven level while the part is powered; nothing while it is not (log 7). -/
def State.outPin (s : State) (o : Fin 16) : Option Bool := if s.supply then some (s.driven o) else none

/-- What HRST carries, in the same way. -/
def State.hrstPin (s : State) : Option Bool := if s.supply then some s.hrstHigh else none

/-- Whether the part asserts ATTN on its line, pulling it low (R141); nothing while it is not powered, when it pulls no line (log 7). -/
def State.attnPin (s : State) : Option Bool := if s.supply then some s.attn else none

/-- The n-th byte SDO carries in the frame in progress: the held response as it stood at the fall of CSN, then 0x00; none while
SDO is high-impedance because CSN is high or the part has no supply (R170). -/
def State.sdoByte (s : State) (n : Nat) : Option Byte :=
  if s.supply then s.hp.frame.map fun f => (f.sdo[n]?).getD 0 else none

end Sys2Proof.Machine
end

