-- ==== Sys2Proof/Machine/Ops.lean ====
section
/-! DEFINITION. The shared operations: reading and writing records, the timing operations on one record, the due order,
posting to the queue, consequences, the expiry of a record, the settling of outstanding expiries, and what every command does
first. -/

namespace Sys2Proof.Machine

/-! ### Slots and records -/

/-- The record of a slot; none when it is FREE (R1). -/
def State.recordAt (s : State) (i : Fin 256) : Option Record := s.slots[i].record

/-- The handle of a slot's record: the slot and its generation (R2). -/
def State.handleAt (s : State) (i : Fin 256) : Handle := ⟨i, s.slots[i].gen⟩

/-- Writes a slot's record; the generation is part of the slot and is kept (R1). -/
def State.putRecord (s : State) (i : Fin 256) (r : Record) : State :=
  { s with slots := s.slots.set i { s.slots[i] with record := some r } }

/-- Makes a slot FREE and keeps its generation (R1, R11). -/
def State.freeRecord (s : State) (i : Fin 256) : State :=
  { s with slots := s.slots.set i { s.slots[i] with record := none } }

/-- The slots whose record satisfies a test, in ascending order. -/
def State.slotsWhere (s : State) (p : Record → Bool) : List (Fin 256) :=
  (List.finRange 256).filter fun i => (s.recordAt i).any p

/-- Makes every slot FREE and keeps every generation (R25, R26). -/
def State.freeAll (s : State) : State := { s with slots := s.slots.map fun slot => { slot with record := none } }

/-! ### One record's timing -/

section
variable {τ : Type}

/-- The period of a phase (R4). -/
def RecordOf.period (r : RecordOf τ) : Phase → Period
  | .a => r.periodA
  | .b => r.periodB

/-- No pending update (R18). -/
def Pending.none : Pending := ⟨.none, .none, .none⟩

/-- The record takes its pending update: each staged field is written and the update becomes absent (R18). -/
def RecordOf.takePending (r : RecordOf τ) : RecordOf τ :=
  { r with
    periodA := r.pending.periodA.getD r.periodA
    periodB := r.pending.periodB.getD r.periodB
    repeatCount := r.pending.repeatCount.getD r.repeatCount
    pending := Pending.none }

/-- Cycles left as a Repeat count sets it: that value, or absent for 0 (R45, R58, R21). -/
def cyclesOf (repeatCount : BitVec 16) : Option (BitVec 16) := if repeatCount = 0 then none else some repeatCount

/-- Miss count incremented by one, staying at 255 (R4, R79). -/
def satIncr (n : BitVec 8) : BitVec 8 := if n = 255 then 255 else n + 1

/-- Whether a record's timing is PAUSED or PARKED with Resume state LAPSED, or LAPSED (R80). -/
def Timing.faulted : Timing → Bool
  | .active .lapsed _ _ _ => true
  | .paused .lapsed _ _ => true
  | .parked .lapsed _ _ => true
  | _ => false

/-- A record blocks RELEASE while its Consequence is SAFE or SAFE_AND_RESET and it is LAPSED, or is PAUSED or PARKED with
Resume state LAPSED (R80). -/
def RecordOf.blocksRelease (r : Record) : Bool := r.consequence != .notify && r.timing.faulted

/-- A record that enters phase A of a first cycle at `t` by START or RESTART: the pending update is taken, Phase start is `t`
and Due is `t` + Period A, and a CADENCE record's Cycles left is counted from its Repeat count (R44, R45, R48). -/
def RecordOf.startedAt (r : Record) (t : Time) : Record :=
  { r.takePending with
    timing := .active .running .a t (t + ticks r.takePending.periodA)
    cyclesLeft := if r.kind = .cadence then cyclesOf r.takePending.repeatCount else none }

/-- A record stopped from RUNNING, LAPSED or PAUSED: the pending update is taken and it becomes IDLE (R46). -/
def RecordOf.stopped (r : Record) : Record := { r.takePending with timing := .idle, cyclesLeft := none }

/-- A record restarted in phase A at `t` by a renewal or a fault: the pending update is taken first (R67, R68, R70, R73 to R76). -/
def RecordOf.phaseAFrom (r : Record) (run : Run) (t : Time) : Record :=
  { r.takePending with timing := .active run .a t (t + ticks r.takePending.periodA) }

/-- START (R44): of an IDLE record; none in any other state. -/
def RecordOf.start? (r : Record) (t : Time) : Option Record :=
  match r.timing with
  | .idle => some (r.startedAt t)
  | _ => none

/-- STOP (R46): of a RUNNING, LAPSED or PAUSED record. -/
def RecordOf.stop? (r : Record) : Option Record :=
  match r.timing with
  | .active _ _ _ _ => some r.stopped
  | .paused _ _ _ => some r.stopped
  | _ => none

/-- RESTART (R48): of an IDLE, RUNNING or LAPSED record. -/
def RecordOf.restart? (r : Record) (t : Time) : Option Record :=
  match r.timing with
  | .idle => some (r.startedAt t)
  | .active _ _ _ _ => some (r.startedAt t)
  | _ => none

/-- PAUSE (R50): of a RUNNING or LAPSED record, with the Remaining it sets. -/
def RecordOf.pause? (r : Record) (t : Time) : Option (Record × Time) :=
  match r.timing with
  | .active run phase _ due => some ({ r with timing := .paused run phase (due - t) }, due - t)
  | _ => none

/-- CONTINUE (R51): of a PAUSED record, with the Due it sets. -/
def RecordOf.continue? (r : Record) (t : Time) : Option (Record × Time) :=
  match r.timing with
  | .paused run phase remaining =>
    some ({ r with timing := .active run phase (t + remaining - ticks (r.period phase)) (t + remaining) }, t + remaining)
  | _ => none

end

/-! ### The due order (R31, R34, R35) -/

/-- The Due of a slot's record; none when it is not in the due order (R34). -/
def State.dueAt (s : State) (i : Fin 256) : Option Time :=
  match s.recordAt i with
  | some r =>
    match r.timing with
    | .active _ _ _ due => some due
    | _ => none
  | none => none

/-- The distance of a slot's Due from Now; none when its record is not in the due order (R31). -/
def State.distanceAt (s : State) (i : Fin 256) : Option Time := (s.dueAt i).map (· - s.td.now)

/-- Remaining of a slot's PARKED record; none otherwise (R166). -/
def State.parkedAt (s : State) (i : Fin 256) : Option Time :=
  match s.recordAt i with
  | some r =>
    match r.timing with
    | .parked _ _ remaining => some remaining
    | _ => none
  | none => none

/-- Priority of a slot's record. -/
def State.priorityAt (s : State) (i : Fin 256) : Nat :=
  match s.recordAt i with
  | some r => r.priority.val
  | none => 0

/-- The three keys of R35 on two slots with these distances: the smaller distance, then the higher Priority, then the lower
slot number. -/
def State.precedes (s : State) (dist : Fin 256 → Option Time) (i j : Fin 256) : Bool :=
  let di := ((dist i).getD 0).toNat
  let dj := ((dist j).getD 0).toNat
  let pi := s.priorityAt i
  let pj := s.priorityAt j
  di < dj || (di == dj && (pj < pi || (pi == pj && i.val ≤ j.val)))

/-- The slots that have a distance, sorted by R35's keys. -/
def State.ordered (s : State) (dist : Fin 256 → Option Time) : List (Fin 256) :=
  ((List.finRange 256).filter fun i => (dist i).isSome).insertionSort fun i j => s.precedes dist i j = true

/-- The due order: the RUNNING and LAPSED records in the order of R35. -/
def State.dueOrder (s : State) : List (Fin 256) := s.ordered s.distanceAt

/-- The records whose due has come, in the due order (R39). -/
def State.dueNow (s : State) : List (Fin 256) := s.dueOrder.filter fun i => s.dueAt i = some s.td.now

/-- A due is past at `n` when due − n, read as a signed number, is zero or negative (R31). -/
def isPast (due n : Time) : Bool := due - n = 0 || (due - n).msb

/-! ### The queue (R133, R134) -/

/-- Whether an entry is the record entry of a handle. -/
def Entry.isOf (e : Entry) (h : Handle) : Bool :=
  match e.content with
  | .record h' _ _ _ => h' == h
  | .system _ => false

/-- Whether an entry is a system entry of a kind. -/
def Entry.isKind (e : Entry) (k : SystemKind) : Bool :=
  match e.content with
  | .record _ _ _ _ => false
  | .system info => info.kind == k

/-- An occurrence merged into a record entry: the kind is added, the count grows, Last at, Tag and Priority are the posting's
(R133). -/
def Entry.mergeOccurrence (e : Entry) (tag : BitVec 16) (priority : Fin 8) (k : Occurrence) (t : Time) : Entry :=
  match e.content with
  | .record h _ _ kinds =>
    { e with content := .record h tag priority (kinds ||| k.bit), count := satIncr e.count, lastAt := t }
  | .system _ => e

/-- A system posting merged into an entry of its kind: the fields are replaced (R134). -/
def Entry.mergeSystem (e : Entry) (info : SystemInfo) (t : Time) : Entry :=
  { e with content := .system info, count := satIncr e.count, lastAt := t }

/-- An occurrence of kind `k` taken by the queue for a record (R133). -/
def postOccurrence (q : List Entry) (h : Handle) (tag : BitVec 16) (priority : Fin 8) (k : Occurrence) (t : Time) : List Entry :=
  if q.any (·.isOf h) then q.map fun e => if e.isOf h then e.mergeOccurrence tag priority k t else e
  else q ++ [{ content := .record h tag priority k.bit, count := 1, firstAt := t, lastAt := t }]

/-- A system posting taken by the queue (R134). -/
def postSystemEntry (q : List Entry) (info : SystemInfo) (t : Time) : List Entry :=
  if q.any (·.isKind info.kind) then q.map fun e => if e.isKind info.kind then e.mergeSystem info t else e
  else q ++ [{ content := .system info, count := 1, firstAt := t, lastAt := t }]

/-- The record table posts an occurrence for the record of slot `i` at Now value `t` (R129). -/
def State.post (s : State) (i : Fin 256) (r : Record) (k : Occurrence) (t : Time) : State :=
  { s with nq := { s.nq with entries := postOccurrence s.nq.entries (s.handleAt i) r.tag r.priority k t } }

/-- A block posts a system entry at Now value `t` (R131). -/
def State.postSystem (s : State) (info : SystemInfo) (t : Time) : State :=
  { s with nq := { s.nq with entries := postSystemEntry s.nq.entries info t } }

/-- The place of the entry FETCH selects: the highest priority, the oldest among equals; none of an empty queue (R136). -/
def fetchIndex (q : List Entry) : Option Nat :=
  q.findIdx? fun e => q.all fun e' => e'.priority ≤ e.priority

/-! ### Consequences (R82 to R84) -/

/-- The output unit is told to enter the safe state: when it is clear it is set with this cause and SAFE_ENTERED is posted; when
it is set nothing changes (R83, R125). -/
def State.enterSafe (s : State) (c : Cause) (t : Time) : State :=
  match s.ou.safe with
  | some _ => s
  | none => { s with ou := { s.ou with safe := some c } }.postSystem (.safeEntered c) t

/-- The output unit is told to issue a host reset: a pulse begins unless one is in progress, and RESET_ISSUED is posted (R84). -/
def State.hostReset (s : State) (h : Handle) (t : Time) : State :=
  { s with ou := { s.ou with hrst := some (s.ou.hrst.getD 0) } }.postSystem (.resetIssued h) t

/-- The Consequence of a fault is applied (R82). -/
def State.applyConsequence (s : State) (h : Handle) (c : Consequence) (t : Time) : State :=
  match c with
  | .notify => s
  | .safe => s.enterSafe (.handle h) t
  | .safeAndReset => (s.enterSafe (.handle h) t).hostReset h t

/-! ### Expiries (R40) -/

/-- A fault of a supervision record at `t`, a miss or an early renewal: the Miss count is incremented, the occurrence is posted,
the Consequence is applied, and the record is LAPSED in a phase A that begins at `t` after it has taken its pending update (R68,
R69, R75, R76). -/
def State.fault (s : State) (i : Fin 256) (r : Record) (k : Occurrence) (t : Time) : State :=
  ((s.post i r k t).applyConsequence (s.handleAt i) r.consequence t).putRecord i
    { r.phaseAFrom .lapsed t with missCount := satIncr r.missCount }

/-- The completion of a ONESHOT or bounded CADENCE record (R53, R57). -/
def State.completeRecord (s : State) (i : Fin 256) (r : Record) (n : Time) : State :=
  (s.post i r .complete n).putRecord i { r with timing := .idle, cyclesLeft := none }

/-- The end of phase A of a CADENCE or WINDOW record: phase B begins at `n`, PHASE is posted when notified, State and the pending
update are kept (R55, R72). -/
def State.phaseAEnd (s : State) (i : Fin 256) (r : Record) (run : Run) (n : Time) : State :=
  (if r.notify.phase then s.post i r .phase n else s).putRecord i
    { r with timing := .active run .b n (n + ticks r.periodB) }

/-- The cycle boundary of a CADENCE record: the pending update is taken, Cycles left is set from a Repeat count it holds, and
phase A begins at `n` (R56 steps 4 and 5, R58). `left` is Cycles left after the decrement. -/
def RecordOf.nextCycle (r : Record) (left : Option (BitVec 16)) (n : Time) : Record :=
  { r.phaseAFrom .running n with
    cyclesLeft := match r.pending.repeatCount with
      | some v => cyclesOf v
      | none => left }

/-- The end of a cycle of a CADENCE record (R56, R57). -/
def State.cycleEnd (s : State) (i : Fin 256) (r : Record) (n : Time) : State :=
  let s' := if r.notify.cycle then s.post i r .cycle n else s
  match r.cyclesLeft with
  | none => s'.putRecord i (r.nextCycle none n)
  | some left => if left - 1 = 0 then s'.completeRecord i r n else s'.putRecord i (r.nextCycle (some (left - 1)) n)

/-- The expiry of the record of slot `i` at `n`, by the rule of its kind, phase and state (R40 step 2). -/
def State.expire (s : State) (i : Fin 256) (n : Time) : State :=
  match s.recordAt i with
  | none => s
  | some r =>
    match r.timing with
    | .active run phase _ _ =>
      match r.kind, phase with
      | .oneshot, _ => s.completeRecord i r n
      | .cadence, .a => s.phaseAEnd i r .running n
      | .cadence, .b => s.cycleEnd i r n
      | .supervise, _ => s.fault i r .miss n
      | .window, .a => s.phaseAEnd i r run n
      | .window, .b => s.fault i r .miss n
    | _ => s

/-- The expiries that are outstanding at Now in RUN are taken, in the due order (R39, log 8). -/
def State.settle (s : State) : State :=
  match s.pr.power with
  | .run => s.dueNow.foldl (fun s i => s.expire i s.td.now) s
  | _ => s

/-! ### What every command does first -/

/-- An event at the powered part: the outstanding expiries are taken before it (R39), and an unpowered part does nothing
(log 7). -/
def State.event (s : State) (f : State → State) : Host.Outcome State Fault Refusal :=
  .next (if s.supply then f s.settle else s)

end Sys2Proof.Machine
end

