-- ==== Sys2Proof/Machine/Port.lean ====
section
/-! DEFINITION. The host port: the held response, the judgement of a frame at its end (R173 to R176), the admission of requests
in each power state (R150), and the meanings of the port's own rows. -/

namespace Sys2Proof.Machine

/-- The bytes of a response frame (R172). -/
def Response.bytes (r : Response) : List Byte := frameBytes r.seq r.status.code r.body

/-- The held response becomes `r`; the last-executed SEQ and response are kept. -/
def State.holdResponse (s : State) (r : Response) : State := { s with hp := { s.hp with held := r } }

/-- CSN rises: no frame is in progress. -/
def State.endFrame (s : State) : State := { s with hp := { s.hp with frame := none } }

/-- The frame that ends was begun less than 2 µs after the one before it (R170). -/
def State.frameIgnored (s : State) : Bool := s.hp.frame.any (·.ignored)

/-- The frame that ends was in progress at a moment of LOADING (R173 test 3). A frame whose fall of CSN was no command of its
own stands whole at its end (log 9). -/
def State.frameMetLoading (s : State) : Bool := s.pr.power == .loading || s.hp.frame.any (·.metLoading)

/-- Tests 1 and 3 of R173 for a frame whose first byte is `seq`, then `good`. -/
def State.judge (s : State) (seq : Byte) (good : State → State) : State :=
  if s.frameIgnored then s.endFrame
  else if s.frameMetLoading then s.endFrame.holdResponse ⟨seq, .starting, []⟩
  else good s.endFrame

/-- The held response becomes the last-executed response (R175). -/
def State.replay (s : State) : State :=
  match s.hp.lastResponse with
  | some r => s.holdResponse r
  | none => s

/-- Step 4 of R176: the response becomes the held and the last-executed response, and the frame's SEQ the last-executed SEQ. -/
def State.answer (s : State) (seq : Byte) (status : Status) (body : List Byte) : State :=
  { s with hp := { s.hp with lastSeq := some seq, lastResponse := some ⟨seq, status, body⟩, held := ⟨seq, status, body⟩ } }

/-- An owning block's answer to a request: the state it leaves, and its response's status and body. -/
structure Answer where
  state : State
  status : Status
  body : List Byte

/-- A refusal changes no state outside the port (R3, R176). -/
def refuse (s : State) (status : Status) (body : List Byte := []) : Answer := ⟨s, status, body⟩

/-- Which power states execute a request (R150). -/
inductive Admission
  /-- NOP, STATUS, QUERY, FIND, FETCH. -/
  | always
  /-- SET_ATTN. -/
  | runOrRecovered
  /-- RESUME. -/
  | resume
  /-- DISCARD. -/
  | discard
  /-- Every other request. -/
  | run
deriving DecidableEq, Repr

/-- The test against the power state: the status of the refusal, or none when the request is executed (R150, R164). -/
def State.refusal (s : State) (a : Admission) : Option Status :=
  match s.pr.power, a with
  | .loading, _ => some .starting
  | .recovered, .always => none
  | .recovered, .runOrRecovered => none
  | .recovered, .resume => if s.pr.pwarn then some .holding else none
  | .recovered, .discard => none
  | .recovered, .run => some .notResumed
  | .run, .resume => some .badState
  | .run, .discard => some .badState
  | .run, _ => none
  | .hold, .always => none
  | .hold, _ => some .holding
  | .parked, .always => none
  | .parked, _ => some .holding

/-- A request executed by its owner, or refused by the power state, and answered (R176 steps 2 to 4). -/
def State.serve (s : State) (seq : Byte) (a : Admission) (owner : State → Answer) : State :=
  match s.refusal a with
  | some status => s.answer seq status []
  | none =>
    let ans := owner s
    ans.state.answer seq ans.status ans.body

/-- A good frame that carries a request ends (R173): it may be ignored, meet LOADING, be a duplicate, or be accepted. -/
def State.request (s : State) (seq : Byte) (a : Admission) (owner : State → Answer) :
    Host.Outcome State Fault Refusal :=
  s.event fun s => s.judge seq fun s =>
    if s.hp.lastSeq = some seq then s.replay else s.serve seq a owner

/-! ### The port's own rows -/

/-- CSN_FALLING_EDGE: a frame begins, and SDO carries the held response as it stands, or 0x00 for a frame begun too soon (R170).
CSN that is low does not fall (log 6). -/
def execCsnFallingEdge (soon : Bool) (s : State) : Host.Outcome State Fault Refusal :=
  s.event fun s =>
    match s.hp.frame with
    | some _ => s
    | none =>
      let f : Frame :=
        { ignored := soon, metLoading := s.pr.power == .loading, sdo := if soon then [] else s.hp.held.bytes }
      { s with hp := { s.hp with frame := some f } }

/-- IGNORED_FRAME: a frame begun too soon ends and nothing else changes (R170, R173 test 1). -/
def execIgnoredFrame (s : State) : Host.Outcome State Fault Refusal :=
  s.event fun s => if s.frameIgnored then s.endFrame else s

/-- EMPTY_FRAME: a frame with no whole byte ends and nothing else changes (R173 test 2). -/
def execEmptyFrame (s : State) : Host.Outcome State Fault Refusal :=
  s.event fun s => s.endFrame

/-- STARTING: a frame that met LOADING is not executed (R173 test 3). A frame that met none is no such event (log 6). -/
def execStarting (bytes : List Byte) (s : State) : Host.Outcome State Fault Refusal :=
  s.event fun s =>
    match bytes with
    | [] => s
    | seq :: _ => if s.frameIgnored || s.frameMetLoading then s.judge seq id else s

/-- FRAME_ERROR: a bad frame is not executed, and the held response gives the reason (R174). Bytes of a good frame are no such
event (log 6). -/
def execFrameError (bytes : List Byte) (s : State) : Host.Outcome State Fault Refusal :=
  s.event fun s =>
    match bytes, frameDefect bytes with
    | seq :: _, some reason => s.judge seq fun s => s.holdResponse ⟨seq, .frameError, [reason.code]⟩
    | _, _ => s

/-- DUPLICATE: a good frame with the last-executed SEQ is answered with the last-executed response, whatever request it carries,
and is not executed (R175). A frame with another SEQ is no such event (log 6). -/
def execDuplicate (seq _code : Byte) (_body : List Byte) (s : State) : Host.Outcome State Fault Refusal :=
  s.event fun s =>
    if s.frameIgnored || s.frameMetLoading || s.hp.lastSeq = some seq then s.judge seq fun s => s.replay else s

/-- BAD_REQUEST: an accepted frame with an unknown CODE, or a LEN wrong for its CODE, is refused before any other test and the
refusal is recorded (R176 step 1). A frame whose CODE and LEN agree is no such event (log 6). -/
def execBadRequest (seq code : Byte) (body : List Byte) (s : State) : Host.Outcome State Fault Refusal :=
  s.event fun s =>
    if requestLength code = some body.length then s
    else s.judge seq fun s => if s.hp.lastSeq = some seq then s.replay else s.answer seq .badRequest []

/-- NOP (R184). -/
def execNop (seq : Byte) (s : State) : Host.Outcome State Fault Refusal :=
  s.request seq .always fun s => ⟨s, .done, []⟩

end Sys2Proof.Machine
end

