-- ==== Sys2Proof/Machine/Retention.lean ====
section
/-! DEFINITION. Images, the banks and how they are written, CHECKPOINT and the completion of a checkpoint (R147, R151, R156 to
R162). -/

namespace Sys2Proof.Machine

/-! ### Images (R157) -/

/-- A record as an image holds it at `t`: a RUNNING or LAPSED record carries Remaining, its Due − `t`, in place of Due and Phase
start (R152, R157, R160). A PARKED record, which no image is ever taken of (R163), is carried as the record it waits to be. -/
def RecordOf.saved (r : Record) (t : Time) : SavedRecord :=
  { r with timing := match r.timing with
      | .idle => .idle
      | .active run phase _ due => .active run phase (due - t)
      | .paused run phase remaining => .paused run phase remaining
      | .parked run phase remaining => .active run phase remaining }

/-- A record restored from an image: RUNNING and LAPSED become PARKED (R24). -/
def RecordOf.restored (r : SavedRecord) : Record :=
  { r with timing := match r.timing with
      | .idle => .idle
      | .active run phase remaining => .parked run phase remaining
      | .paused run phase remaining => .paused run phase remaining }

/-- The image of the part as it stands, of this origin and generation (R157). -/
def State.image (s : State) (origin : Origin) (generation : BitVec 32) : Image :=
  { generation := generation
    origin := origin
    savedNow := s.td.now
    tickPeriod := s.td.tickPeriod
    threshold := s.nq.threshold
    safe := s.ou.safe
    recordCount := (s.slotsWhere fun _ => true).length
    queueSize := s.nq.entries.length
    slots := s.slots.map fun slot => ⟨slot.gen, slot.record.map fun r => r.saved s.td.now⟩
    routes := s.ou.routes
    lines := s.lu.lines.map (·.config) }

/-- The CRC-32 over an image's body and the other items of its header (R147, log 11). -/
def imageCrc (i : Image) : BitVec 32 := crc32 (Config.imageBytes i)

/-- A bank is valid when its valid marker is present and the CRC-32 its header carries matches (R147). What LOADING then holds of
it. -/
def Bank.judge (b : Bank) : Option BankInfo :=
  match b.content with
  | some stored =>
    if b.marker && stored.crc == imageCrc stored.image then some ⟨stored.image.generation, stored.image.origin⟩ else none
  | none => none

/-! ### Banks (R156, R158) -/

/-- The bank that holds the newest valid image: the valid one of the greater generation, or the one valid bank (R147, R156). -/
def newestBank (banks : Vector (Option BankInfo) 2) : Option (Fin 2) :=
  match banks[0], banks[1] with
  | none, none => none
  | some _, none => some 0
  | none, some _ => some 1
  | some x, some y => if x.generation < y.generation then some 1 else some 0

/-- The newest valid image's bank, generation and origin (R156). -/
def PowerUnit.newest (p : PowerUnit) : Option (Fin 2 × BankInfo) :=
  (newestBank p.banks).bind fun b => p.banks[b].map fun info => (b, info)

/-- The other bank. -/
def otherBank (b : Fin 2) : Fin 2 := if b = 0 then 1 else 0

/-- The target of a write and its generation (R158 step 1): the bank that does not hold the newest valid image with its generation
plus 1, which 4,294,967,295 makes 1; bank 0 and 1 when no bank is valid. -/
def PowerUnit.target (p : PowerUnit) : Fin 2 × BitVec 32 :=
  match p.newest with
  | none => (0, 1)
  | some (b, info) => (otherBank b, if info.generation = Config.maxGeneration then 1 else info.generation + 1)

/-- A bank's valid marker is erased, and the bank is held invalid (R158 step 2). -/
def PowerUnit.invalidate (p : PowerUnit) (b : Fin 2) : PowerUnit :=
  { p with store := p.store.set b { p.store[b] with marker := false }, banks := p.banks.set b none }

/-- The completion of a write (R158 step 4): the target's marker is written over the image, and at the wrap of generations the
other bank's marker is then erased. -/
def PowerUnit.written (p : PowerUnit) (b : Fin 2) (i : Image) : PowerUnit :=
  let p' : PowerUnit :=
    { p with
      store := p.store.set b ⟨true, some ⟨i, imageCrc i⟩⟩
      banks := p.banks.set b (some ⟨i.generation, i.origin⟩) }
  match p.banks[otherBank b] with
  | some info => if info.generation = Config.maxGeneration then p'.invalidate (otherBank b) else p'
  | none => p'

/-! ### Checkpoints -/

/-- CHECKPOINT at the power and retention unit (R160): BUSY while one is in flight; otherwise the target's marker is erased and a
snapshot is taken at Now. -/
def State.takeCheckpoint (s : State) : Answer :=
  match s.pr.checkpoint with
  | some _ => refuse s .busy
  | none =>
    let target := s.pr.target
    let flight : CheckpointInFlight :=
      { bank := target.1, generation := target.2, snapshot := s.image .checkpoint target.2 }
    ⟨{ s with pr := { s.pr.invalidate target.1 with checkpoint := some flight } }, .accepted,
      [BitVec.ofNat 8 target.1.val] ++ bytes32 target.2⟩

/-- CHECKPOINT (R160). -/
def execCheckpoint (seq : Byte) (s : State) : Host.Outcome State Fault Refusal :=
  s.request seq .run fun s => s.takeCheckpoint

/-- CHECKPOINT_COMPLETE (R161): the snapshot is the newest valid image and CHECKPOINT_DONE is posted. With no checkpoint in flight
there is no such event (log 6). -/
def execCheckpointComplete (s : State) : Host.Outcome State Fault Refusal :=
  s.event fun s =>
    match s.pr.checkpoint with
    | none => s
    | some c =>
      { s with pr := { s.pr.written c.bank c.snapshot with checkpoint := none } }.postSystem (.checkpointDone c.generation)
        s.td.now

/-! ### The hold (R151) -/

/-- The power state becomes HOLD (R151): Now is frozen, the hold counter is 0, the divider is restarted, a checkpoint in flight is
abandoned and its target inherited, and the hold save begins. -/
def State.enterHold (s : State) : State :=
  let td := { s.td with holdCounter := 0, divider := 0 }
  match s.pr.checkpoint with
  | some c =>
    { s with
      td := td
      pr := { s.pr with power := .hold, checkpoint := none, save := some ⟨c.bank, c.generation⟩ } }.postSystem
        (.checkpointAbandoned .power) s.td.now
  | none =>
    let target := s.pr.target
    { s with
      td := td
      pr := { s.pr.invalidate target.1 with power := .hold, save := some ⟨target.1, target.2⟩ } }

/-- The power state becomes RUN: the divider is restarted, and while PWARN is asserted it becomes HOLD within the same event
(R27, R154). -/
def State.enterRun (s : State) : State :=
  let s' := { s with td := { s.td with divider := 0 }, pr := { s.pr with power := .run } }
  if s.pr.pwarn then s'.enterHold else s'

end Sys2Proof.Machine
end

