-- ==== Sys2Proof/Machine/Reconcile.lean ====
section
/-! DEFINITION. Reconciliation (R166 to R169), RESUME, and the completion of the hold save (R153, R164). -/

namespace Sys2Proof.Machine

/-- The Due of a record that reconciliation visits, before it is treated: its Due, or for a PARKED record the frozen Now plus its
Remaining (R166). -/
def Timing.preDue (t : Timing) (frozen : Time) : Option Time :=
  match t with
  | .active _ _ _ due => some due
  | .parked _ _ remaining => some (frozen + remaining)
  | _ => none

/-- STRETCH (R167): the outage is left out of the record's timing. A RUNNING or LAPSED record's Phase start and Due move by H; a
PARKED one gets the new Now plus Remaining. -/
def RecordOf.stretched (r : Record) (h : Nat) (newNow : Time) : Record :=
  match r.timing with
  | .active run phase start due =>
    { r with timing := .active run phase (start + BitVec.ofNat 32 h) (due + BitVec.ofNat 32 h) }
  | .parked run phase remaining =>
    { r with timing := .active run phase (newNow + remaining - ticks (r.period phase)) (newNow + remaining) }
  | _ => r

/-- CATCHUP, step 1 (R168): a PARKED record returns to its Resume state with its due at the original instant. -/
def RecordOf.unparked (r : Record) (frozen : Time) : Record :=
  match r.timing with
  | .parked run phase remaining =>
    { r with timing := .active run phase (frozen + remaining - ticks (r.period phase)) (frozen + remaining) }
  | _ => r

/-- CATCHUP, step 2 (R168): while the Due of slot `i`'s record is past at the new Now, its expiry at that Due is taken. Every
expiry moves the Due on by at least one tick, so `fuel` of one more than H is never used up (log 17). -/
def State.replayDue (s : State) (i : Fin 256) (newNow : Time) : Nat → State
  | 0 => s
  | fuel + 1 =>
    match s.dueAt i with
    | some due => if isPast due newNow then (s.expire i due).replayDue i newNow fuel else s
    | none => s

/-- One visited record under its Hold policy; every record is treated under STRETCH when the outage is UNKNOWN (R166). -/
def State.treat (s : State) (frozen : Time) (h : Nat) (unknown : Bool) (i : Fin 256) : State :=
  match s.recordAt i with
  | none => s
  | some r =>
    let newNow := frozen + BitVec.ofNat 32 h
    if unknown || r.holdPolicy == .stretch then s.putRecord i (r.stretched h newNow)
    else (s.putRecord i (r.unparked frozen)).replayDue i newNow (h + 1)

/-- The records a reconciliation visits, in R166's order: the due order for BROWNOUT, the PARKED records by Remaining for
RESUME. -/
def State.visited (s : State) : ResumeOrigin → List (Fin 256)
  | .brownout => s.dueOrder
  | .resume => s.ordered s.parkedAt

/-- The end of reconciliation (R169): Now is the new Now, RESUMED is posted with the ignored-edge set, which is then emptied, and
the power state becomes RUN, or HOLD at once while PWARN is asserted. -/
def State.endReconciliation (s : State) (origin : ResumeOrigin) (h : Nat) (newNow : Time) (visited : Nat) : State :=
  let s' := ({ s with td := { s.td with now := newNow } }.postSystem (.resumed h origin s.lu.ignored visited) newNow)
  { s' with lu := { s'.lu with ignored := 0 } }.enterRun

/-- Reconciliation of H ticks (R166 to R169). -/
def State.reconcile (s : State) (origin : ResumeOrigin) (h : Nat) (unknown : Bool) : State :=
  let frozen := s.td.now
  let order := s.visited origin
  (order.foldl (fun s' i => s'.treat frozen h unknown i) s).endReconciliation origin h (frozen + BitVec.ofNat 32 h) order.length

/-- Brownout reconciliation, which reads the hold counter as it begins (R32, R166). -/
def State.brownout (s : State) : State := s.reconcile .brownout s.td.holdCounter false

/-- The outage that RESUME carries as UNKNOWN (R180). -/
def unknownOutage : BitVec 32 := 0xFFFFFFFF#32

/-- RESUME at the power and retention unit (R164). -/
def State.resumeRequest (s : State) (outage : BitVec 32) : Answer :=
  if outage = unknownOutage then ⟨s.reconcile .resume 0 true, .accepted, []⟩
  else if Config.holdMax < outage.toNat then refuse s .badField
  else ⟨s.reconcile .resume outage.toNat false, .accepted, []⟩

/-- RESUME (R164). -/
def execResume (seq : Byte) (outage : BitVec 32) (s : State) : Host.Outcome State Fault Refusal :=
  s.request seq .resume fun s => s.resumeRequest outage

/-- HOLD_SAVE_COMPLETE (R153): the image of the part as it stands is the newest valid image; then PARKED while PWARN is asserted,
and brownout reconciliation when it is withdrawn. With no save in flight there is no such event (log 6). -/
def execHoldSaveComplete (s : State) : Host.Outcome State Fault Refusal :=
  s.event fun s =>
    match s.pr.save with
    | none => s
    | some f =>
      let s' := { s with pr := { s.pr.written f.bank (s.image .holdSave f.generation) with save := none } }
      if s.pr.pwarn then { s' with pr := { s'.pr with power := .parked } } else s'.brownout

end Sys2Proof.Machine
end

