-- ==== Sys2Proof/Machine/Power.lean ====
section
/-! DEFINITION. The power events, LOADING, DISCARD, CLEAR, STATUS, ticks and expiries (R27 to R40, R146 to R155, R165, R185, R186,
R188). -/

namespace Sys2Proof.Machine

/-! ### LOADING (R146 to R149) -/

/-- LOADING begins (R146, R177): writes in flight are abandoned with their targets invalid, the queue is emptied, the hold counter is
0, the port's state is reset, and a frame in progress has met LOADING. DESIGN CHOICE: what R146 does not name, the table, Now, the
routes, the threshold and what is held of the banks among it, keeps its values until LOADING completes (log 19). -/
def State.beginLoading (s : State) : State :=
  { s with
    td := { s.td with holdCounter := 0 }
    nq := { s.nq with entries := [] }
    pr := { s.pr with power := .loading, checkpoint := none, save := none }
    hp := { lastSeq := none, lastResponse := none, held := ⟨0, .starting, []⟩,
            frame := s.hp.frame.map fun f => { f with metLoading := true } } }

/-- The lines as LOADING leaves them: the given configurations, each filtered level as sampled, no candidate (R99). -/
def loadedLines (configs : Vector LineConfig 8) (levels : BitVec 8) : Vector Line 8 :=
  Vector.ofFn fun l => ⟨configs[l], levels.getLsbD l.val, none⟩

/-- An image is loaded into the blocks (R24, R148): timing records become PARKED, Now is the saved Now, the power state is
RECOVERED, and RESTORED is posted. -/
def State.restore (s : State) (i : Image) (levels : BitVec 8) : State :=
  let s' : State :=
    { s with
      slots := i.slots.map fun slot => ⟨slot.gen, slot.record.map fun r => r.restored⟩
      td := { s.td with now := i.savedNow, tickPeriod := i.tickPeriod, divider := 0 }
      lu := { lines := loadedLines i.lines levels, ignored := 0 }
      ou := { s.ou with routes := i.routes, safe := i.safe }
      nq := { s.nq with threshold := i.threshold }
      pr := { s.pr with power := .recovered } }
  let parked := (s'.slotsWhere fun r => r.timing.state == .parked).length
  s'.postSystem (.restored i.generation i.origin i.savedNow parked i.queueSize) i.savedNow

/-- The cold start (R149): every block takes its cold values, COLD_START is posted at Now 0, and the power state becomes RUN, or
HOLD at once while PWARN is asserted (R154). -/
def State.coldStart (s : State) (levels : BitVec 8) : State :=
  ({ s with
    slots := Vector.replicate 256 freeSlot
    td := { s.td with now := 0, tickPeriod := .ms1, divider := 0 }
    lu := { lines := loadedLines (Vector.replicate 8 coldLine) levels, ignored := 0 }
    ou := { s.ou with routes := Vector.replicate 16 coldRoute, safe := none }
    nq := { s.nq with threshold := 0 } }.postSystem (.coldStart .noImage) 0).enterRun

/-- The image LOADING selects: the content of the bank that holds the newest valid image (R147). -/
def PowerUnit.selected (p : PowerUnit) : Option Image :=
  (newestBank p.banks).bind fun b => p.store[b].content.map (·.image)

/-- LOADING_COMPLETE (R147 to R149): each bank is judged, and the newest valid image is restored or the part starts cold; the held
response becomes DONE with SEQ 0 (R177). It does not complete outside LOADING or while RSTN is asserted (R146, log 6). -/
def execLoadingComplete (levels : BitVec 8) (s : State) : Host.Outcome State Fault Refusal :=
  s.event fun s =>
    match s.pr.power, s.pr.rstn with
    | .loading, false =>
      let pr := { s.pr with banks := s.pr.store.map Bank.judge }
      let s' := { s with pr := pr }.holdResponse ⟨0, .done, []⟩
      match pr.selected with
      | some i => s'.restore i levels
      | none => s'.coldStart levels
    | _, _ => s

/-- POWER_ON (R85, R146): the supply comes up with PWARN and RSTN at these levels, the HRST pulse is idle, and LOADING begins. DESIGN
CHOICE: LOADING then holds what stood before the loss of supply (log 19), and a frame in progress at the loss is still in progress and
meets LOADING (log 20). -/
def execPowerOn (pwarn rstn : Bool) (s : State) : Host.Outcome State Fault Refusal :=
  .next { s with
    supply := true
    ou := { s.ou with hrst := none }
    pr := { s.pr with pwarn := pwarn, rstn := rstn } }.beginLoading

/-- SUPPLY_LOST (R152, R155, R159, R162): the part is dark, and a write in flight is cut short with its target left without its
valid marker. DESIGN CHOICE: everything else is kept through the dark, the table and its timing (log 19) and a frame in progress
(log 20). -/
def execSupplyLost (s : State) : Host.Outcome State Fault Refusal :=
  s.event fun s => { s with supply := false, pr := { s.pr with checkpoint := none, save := none } }

/-- STORE_CONTENTS_LOST (R147): with the main supply and VBAK both absent the store loses its contents. With the main supply
present there is no such event (log 6). -/
def execStoreContentsLost (s : State) : Host.Outcome State Fault Refusal :=
  .next (if s.supply then s else { s with pr := { s.pr with store := Vector.replicate 2 emptyBank } })

/-- RSTN_ASSERTED (R146, R188): LOADING begins in every power state. -/
def execRstnAsserted (s : State) : Host.Outcome State Fault Refusal :=
  s.event fun s => { s with pr := { s.pr with rstn := true } }.beginLoading

/-- RSTN_RELEASED (R188): LOADING, which stayed at its beginning, may read the banks and complete. -/
def execRstnReleased (s : State) : Host.Outcome State Fault Refusal :=
  s.event fun s => { s with pr := { s.pr with rstn := false } }

/-! ### PWARN (R151, R154) -/

/-- PWARN_ASSERTED: HOLD from RUN, as R151 gives; noted in every other power state (R154). -/
def execPwarnAsserted (s : State) : Host.Outcome State Fault Refusal :=
  s.event fun s =>
    let s' := { s with pr := { s.pr with pwarn := true } }
    match s.pr.power with
    | .run => s'.enterHold
    | _ => s'

/-- PWARN_WITHDRAWN: brownout reconciliation and RUN from PARKED; noted in every other power state (R154). -/
def execPwarnWithdrawn (s : State) : Host.Outcome State Fault Refusal :=
  s.event fun s =>
    let s' := { s with pr := { s.pr with pwarn := false } }
    match s.pr.power with
    | .parked => s'.brownout
    | _ => s'

/-! ### Ticks and expiries -/

/-- TICK (R27, R29, R32): the divider completes one tick period; Now advances in RUN, and the hold counter counts in HOLD and PARKED
up to its limit. The divider does not run in LOADING. The expiries that Now's new value brings are outstanding until EXPIRY or the
next other command takes them (R39, log 8). -/
def execTick (s : State) : Host.Outcome State Fault Refusal :=
  s.event fun s =>
    match s.pr.power with
    | .loading => s
    | .run => { s with td := { s.td with now := s.td.now + 1, divider := 0 } }
    | .hold | .parked =>
      { s with td := { s.td with
          holdCounter := if s.td.holdCounter < Config.holdMax then s.td.holdCounter + 1 else s.td.holdCounter, divider := 0 } }
    | .recovered => { s with td := { s.td with divider := 0 } }

/-- EXPIRY (R40): in RUN the first record of the due order, when its due has come, is expired at Now by the rule of its kind. With
no due that has come there is no such event (log 6). -/
def execExpiry (s : State) : Host.Outcome State Fault Refusal :=
  .next
    (if s.supply then
      match s.pr.power, s.dueNow with
      | .run, i :: _ => s.expire i s.td.now
      | _, _ => s
    else s)

/-! ### DISCARD and CLEAR -/

/-- Every line returns to edge select NONE and filter width 0, keeping its filtered level and its candidate, and the ignored-edge
set is emptied (R99, R113). -/
def LineUnit.unconfigured (lu : LineUnit) : LineUnit :=
  { lines := lu.lines.map fun line => { line with config := coldLine }, ignored := 0 }

/-- DISCARD at the power and retention unit (R165). -/
def State.discardImage (s : State) : Answer :=
  let s' : State :=
    { s.freeAll with
      lu := s.lu.unconfigured
      ou := { s.ou with routes := Vector.replicate 16 coldRoute, safe := none }
      pr := (s.pr.invalidate 0).invalidate 1 }
  ⟨(s'.postSystem (.coldStart .discarded) s.td.now).enterRun, .done, []⟩

/-- DISCARD (R165). -/
def execDiscard (seq : Byte) (s : State) : Host.Outcome State Fault Refusal :=
  s.request seq .discard fun s => s.discardImage

/-- CLEAR (R186): the table, the queue, the routes, the line configuration and the safe state are emptied, the threshold is 0, and a
checkpoint in flight is abandoned and reported. -/
def State.clearPart (s : State) : Answer :=
  let s' : State :=
    { s.freeAll with
      lu := s.lu.unconfigured
      ou := { s.ou with routes := Vector.replicate 16 coldRoute, safe := none }
      nq := { entries := [], threshold := 0 }
      pr := { s.pr with checkpoint := none } }
  ⟨if s.pr.checkpoint.isSome then s'.postSystem (.checkpointAbandoned .clear) s.td.now else s', .done,
    count16 (s.slotsWhere fun _ => true).length ++ [boolCode s.pr.checkpoint.isSome]⟩

/-- CLEAR (R186). -/
def execClear (seq : Byte) (s : State) : Host.Outcome State Fault Refusal :=
  s.request seq .run fun s => s.clearPart

/-! ### STATUS (R185) -/

/-- The number of records in a state. -/
def State.countState (s : State) (st : RecordState) : Nat := (s.slotsWhere fun r => r.timing.state == st).length

/-- STATUS's body: R185's values in its order, at R180's widths (log 13). -/
def State.statusBody (s : State) : List Byte :=
  [s.pr.power.code] ++ bytes32 s.td.now ++ [s.td.tickPeriod.code] ++
  count16 (s.countState .idle) ++ count16 (s.countState .running) ++ count16 (s.countState .paused) ++
  count16 (s.countState .lapsed) ++ count16 (s.countState .parked) ++ count16 s.nq.entries.length ++ causeBytes s.ou.safe ++
  optional 5 (s.pr.checkpoint.map fun c => [BitVec.ofNat 8 c.bank.val] ++ bytes32 c.generation) ++
  optional 6 (s.pr.newest.map fun n => [BitVec.ofNat 8 n.1.val] ++ bytes32 n.2.generation ++ [n.2.origin.code]) ++
  [assertedCode s.pr.pwarn]

/-- STATUS (R185). -/
def execStatus (seq : Byte) (s : State) : Host.Outcome State Fault Refusal :=
  s.request seq .always fun s => ⟨s, .done, s.statusBody⟩

end Sys2Proof.Machine
end

