-- ==== Sys2Proof/Machine/Clock.lean ====
section
/-! DEFINITION. What the part does with no command waiting (log 4): an outstanding expiry is queued, or one REFCLK cycle passes and
the events that it completes are queued. -/

namespace Sys2Proof.Machine

/-- The divider after one REFCLK cycle: it runs in every power state but LOADING (R27). -/
def State.nextDivider (s : State) : Nat := if s.pr.power = .loading then s.td.divider else s.td.divider + 1

/-- One REFCLK cycle passes at the divider, the HRST pulse and the clock of the filters (R27, R85, R100). -/
def State.cycle (s : State) : State :=
  { s with
    td := { s.td with divider := s.nextDivider }
    ou := { s.ou with hrst := s.ou.hrst.map (· + 1) }
    refclk := s.refclk + 1 }

/-- Whether a line's candidate has been held for the filter width (R100). -/
def State.candidateHeld (s : State) (l : Fin 8) : Bool :=
  match s.pr.power, s.lu.lines[l].candidate with
  | .loading, _ => false
  | _, none => false
  | _, some c => c.start + Config.cyclesPerMicrosecond * s.lu.lines[l].config.filterWidth.val ≤ s.refclk

/-- Whether the divider has counted a whole tick period (R27). -/
def State.tickComplete (s : State) : Bool := s.pr.power != .loading && s.td.tickPeriod.cycles ≤ s.td.divider

/-- The events that have become due at this REFCLK cycle: the end of the HRST pulse, the accepted candidates in line order, the tick
(log 4). DESIGN CHOICE: a sample that reverts in the very cycle at which its candidate has been held meets it accepted, because the
acceptance is queued here, ahead of a sample sent after the cycle (R100 gives neither order, log 18). -/
def State.cycleEvents (s : State) : List Instr :=
  (if s.ou.hrst.any fun n => Config.hrstCycles ≤ n then [.hrstPulseEnd] else []) ++
  ((List.finRange 8).filter fun l => s.candidateHeld l).map Instr.candidateAccepted ++
  (if s.tickComplete then [.tick] else [])

/-- With no command waiting: an expiry that is outstanding comes next; otherwise one REFCLK cycle passes and its events are queued, the
acceptances of that cycle ahead of its samples (log 4, log 18). An unpowered part idles. -/
def State.idle (s : State) : State :=
  if !s.supply then s
  else if s.pr.power == .run && !s.dueNow.isEmpty then { s with pending := [.expiry] }
  else { s.cycle with pending := s.cycle.cycleEvents }

end Sys2Proof.Machine
end

