-- ==== Sys2Proof/Machine/Groups.lean ====
section
/-! DEFINITION. JOIN, LEAVE and the group requests (R88 to R96). -/

namespace Sys2Proof.Machine

/-- A group as JOIN and LEAVE report it, or *none* (R89, R90). -/
def groupBytes (g : Option (Fin 16)) : List Byte := optional 1 (g.map fun g => [BitVec.ofNat 8 g.val])

/-- JOIN at the record table (R89). -/
def State.joinGroup (s : State) (h : Handle) (group : Byte) : Answer :=
  match s.recordOf h with
  | none => refuse s .badHandle
  | some r =>
    match finOf 16 group with
    | none => refuse s .badField
    | some g => ⟨s.putRecord h.slot { r with group := some g }, .done, groupBytes r.group⟩

/-- JOIN (R89). -/
def execJoin (seq : Byte) (h : Handle) (group : Byte) (s : State) : Host.Outcome State Fault Refusal :=
  s.request seq .run fun s => s.joinGroup h group

/-- LEAVE at the record table (R90). -/
def State.leaveGroup (s : State) (h : Handle) : Answer :=
  match s.recordOf h with
  | none => refuse s .badHandle
  | some r => ⟨s.putRecord h.slot { r with group := none }, .done, groupBytes r.group⟩

/-- LEAVE (R90). -/
def execLeave (seq : Byte) (h : Handle) (s : State) : Host.Outcome State Fault Refusal :=
  s.request seq .run fun s => s.leaveGroup h

/-- Whether a record is a member of a group (R88). -/
def RecordOf.inGroup (r : Record) (g : Fin 16) : Bool := r.group == some g

/-- A member after a group request: an operation that does not apply passes it over (R92). -/
def Slot.groupOp (slot : Slot) (g : Fin 16) (op : Record → Option Record) : Slot :=
  match slot.record with
  | some r => if r.inGroup g then { slot with record := some ((op r).getD r) } else slot
  | none => slot

/-- A group request on the members of a group at one Now. No operation on one member changes another's state or membership, so
each member meets the state it had when the request began (R92). The response counts the members and those affected. -/
def State.groupRequest (s : State) (g : Fin 16) (op : Record → Option Record) : Answer :=
  ⟨{ s with slots := s.slots.map fun slot => slot.groupOp g op }, .done,
    count16 (s.slotsWhere fun r => r.inGroup g).length ++
    count16 (s.slotsWhere fun r => r.inGroup g && (op r).isSome).length⟩

/-- What GROUP_START does to a member: an IDLE one is started, and with *restart running* YES a RUNNING or LAPSED one is
restarted (R93). -/
def RecordOf.groupStart? (r : Record) (restartRunning : Bool) (t : Time) : Option Record :=
  if restartRunning then r.restart? t else r.start? t

/-- GROUP_START at the record table (R92, R93). -/
def State.startGroup (s : State) (group option : Byte) : Answer :=
  match finOf 16 group, boolOf option with
  | some g, some restartRunning => s.groupRequest g fun r => r.groupStart? restartRunning s.td.now
  | _, _ => refuse s .badField

/-- GROUP_START (R92, R93). -/
def execGroupStart (seq group option : Byte) (s : State) : Host.Outcome State Fault Refusal :=
  s.request seq .run fun s => s.startGroup group option

/-- GROUP_STOP at the record table (R94). -/
def State.stopGroup (s : State) (group : Byte) : Answer :=
  match finOf 16 group with
  | some g => s.groupRequest g fun r => r.stop?
  | none => refuse s .badField

/-- GROUP_STOP (R92, R94). -/
def execGroupStop (seq group : Byte) (s : State) : Host.Outcome State Fault Refusal :=
  s.request seq .run fun s => s.stopGroup group

/-- GROUP_PAUSE at the record table (R95). -/
def State.pauseGroup (s : State) (group : Byte) : Answer :=
  match finOf 16 group with
  | some g => s.groupRequest g fun r => (r.pause? s.td.now).map (·.1)
  | none => refuse s .badField

/-- GROUP_PAUSE (R92, R95). -/
def execGroupPause (seq group : Byte) (s : State) : Host.Outcome State Fault Refusal :=
  s.request seq .run fun s => s.pauseGroup group

/-- GROUP_CONTINUE at the record table (R96). -/
def State.continueGroup (s : State) (group : Byte) : Answer :=
  match finOf 16 group with
  | some g => s.groupRequest g fun r => (r.continue? s.td.now).map (·.1)
  | none => refuse s .badField

/-- GROUP_CONTINUE (R92, R96). -/
def execGroupContinue (seq group : Byte) (s : State) : Host.Outcome State Fault Refusal :=
  s.request seq .run fun s => s.continueGroup group

end Sys2Proof.Machine
end

