-- ==== Sys2Proof/Machine/Supervision.lean ====
section
/-! DEFINITION. RENEW and what a renewal does, by request or by edge (R65 to R75). -/

namespace Sys2Proof.Machine

/-- A renewal of the RUNNING or LAPSED supervision record of slot `i` at `t`: early in a WINDOW record's phase A (R75), else good
(R67, R73), with RECOVERED posted when the record was LAPSED (R70, R74). None of a record that is not timing. -/
def State.renewAt (s : State) (i : Fin 256) (r : Record) (t : Time) : Option (State × RenewOutcome) :=
  match r.timing with
  | .active run phase _ _ =>
    match r.kind, phase, run with
    | .window, .a, _ => some (s.fault i r .early t, .early)
    | _, _, .running => some (s.putRecord i (r.phaseAFrom .running t), .good)
    | _, _, .lapsed => some ((s.post i r .recovered t).putRecord i (r.phaseAFrom .running t), .recovered)
  | _ => none

/-- The Miss count of a slot's record; 0 of a FREE slot. -/
def State.missCountAt (s : State) (i : Fin 256) : BitVec 8 :=
  match s.recordAt i with
  | some r => r.missCount
  | none => 0

/-- RENEW at the record table (R65, R66): the response carries the outcome, the new Due and the Miss count after the renewal. -/
def State.renew (s : State) (h : Handle) : Answer :=
  match s.recordOf h with
  | none => refuse s .badHandle
  | some r =>
    if !r.kind.supervises then refuse s .badKind
    else
      match s.renewAt h.slot r s.td.now with
      | none => refuse s .badState
      | some (s', outcome) =>
        ⟨s', .done, [outcome.code] ++ bytes32 ((s'.dueAt h.slot).getD 0) ++ [s'.missCountAt h.slot]⟩

/-- RENEW (R65 to R75). -/
def execRenew (seq : Byte) (h : Handle) (s : State) : Host.Outcome State Fault Refusal :=
  s.request seq .run fun s => s.renew h

end Sys2Proof.Machine
end

