-- ==== Sys2Proof/Machine/Lines.lean ====
section
/-! DEFINITION. The input lines: the filter, edges and their actions, SET_LINE, BIND and UNBIND (R99 to R114). -/

namespace Sys2Proof.Machine

/-- Writes a line. -/
def State.putLine (s : State) (l : Fin 8) (line : Line) : State :=
  { s with lu := { s.lu with lines := s.lu.lines.set l line } }

/-! ### Edges -/

/-- Whether a change of the filtered level to `level` is an edge under an edge select (R101). -/
def EdgeSelect.admits : EdgeSelect → Bool → Bool
  | .none, _ => false
  | .rise, level => level
  | .fall, level => !level
  | .both, _ => true

/-- A record bound to a line (R104). -/
def RecordOf.boundTo (r : Record) (l : Fin 8) : Bool := r.trigger.any fun t => t.line == l

/-- The trigger action of the record of slot `i` at `t`; a record to which it does not apply is passed over (R108 to R111). -/
def State.edgeAction (s : State) (t : Time) (i : Fin 256) : State :=
  match s.recordAt i with
  | none => s
  | some r =>
    match r.trigger with
    | none => s
    | some trigger =>
      match trigger.action with
      | .start => (r.start? t).elim s (s.putRecord i)
      | .restart => (r.restart? t).elim s (s.putRecord i)
      | .renew => if r.kind.supervises then (s.renewAt i r t).elim s (·.1) else s

/-- An edge on a line: in RUN each bound record is acted on in ascending slot order at one Now (R108); in HOLD, PARKED and
RECOVERED the line is added to the ignored-edge set (R101, R113). -/
def State.edge (s : State) (l : Fin 8) : State :=
  match s.pr.power with
  | .run => (s.slotsWhere fun r => r.boundTo l).foldl (fun s' i => s'.edgeAction s.td.now i) s
  | .loading => s
  | .hold | .parked | .recovered => { s with lu := { s.lu with ignored := s.lu.ignored ||| (1#8 <<< l.val) } }

/-- A line's candidate of this level is accepted: the filtered level takes it, the candidate becomes absent, and it may be an
edge (R100, R101). -/
def State.accept (s : State) (l : Fin 8) (level : Bool) : State :=
  let line := s.lu.lines[l]
  let s' := s.putLine l { line with level := level, candidate := none }
  if line.config.edgeSelect.admits level then s'.edge l else s'

/-- CANDIDATE_ACCEPTED (R100, R101, R108, R113). With no candidate, and in LOADING, where the filter does not run, there is no
such event (log 6). -/
def execCandidateAccepted (l : Fin 8) (s : State) : Host.Outcome State Fault Refusal :=
  s.event fun s =>
    match s.pr.power, s.lu.lines[l].candidate with
    | .loading, _ => s
    | _, none => s
    | _, some c => s.accept l c.level

/-- SAMPLED_LEVEL_CHANGE (R100): a sample that equals the filtered level removes the candidate; one that differs creates a
candidate when there is none, which a filter width of 0 accepts at that sample (log 10). The filter does not run in LOADING. -/
def execSampledLevelChange (l : Fin 8) (level : Bool) (s : State) : Host.Outcome State Fault Refusal :=
  s.event fun s =>
    let line := s.lu.lines[l]
    match s.pr.power with
    | .loading => s
    | _ =>
      if level = line.level then s.putLine l { line with candidate := none }
      else if line.config.filterWidth = 0 then s.accept l level
      else if line.candidate.isSome then s
      else s.putLine l { line with candidate := some ⟨level, s.refclk⟩ }

/-! ### SET_LINE, BIND and UNBIND -/

/-- SET_LINE at the line unit (R102). -/
def State.setLine (s : State) (line edgeSelect filterWidth : Byte) : Answer :=
  match finOf 8 line, edgeSelectOf edgeSelect, finOf 16 filterWidth with
  | some l, some e, some w =>
    let old := s.lu.lines[l]
    let new : Line :=
      { old with config := ⟨e, w⟩, candidate := old.candidate.map fun c => { c with start := s.refclk } }
    ⟨s.putLine l new, .done, [boolCode new.level, boolCode new.candidate.isSome]⟩
  | _, _, _ => refuse s .badField

/-- SET_LINE (R102). -/
def execSetLine (seq line edgeSelect filterWidth : Byte) (s : State) : Host.Outcome State Fault Refusal :=
  s.request seq .run fun s => s.setLine line edgeSelect filterWidth

/-- A Trigger as BIND and UNBIND report it, or *none* (R105, R106). -/
def triggerOptionBytes (t : Option Trigger) : List Byte := optional 2 (t.map triggerBytes)

/-- BIND at the record table (R105). -/
def State.bindRecord (s : State) (h : Handle) (line action : Byte) : Answer :=
  match s.recordOf h with
  | none => refuse s .badHandle
  | some r =>
    match finOf 8 line, actionOf action with
    | some l, some a =>
      if a == .renew && !r.kind.supervises then refuse s .badKind
      else ⟨s.putRecord h.slot { r with trigger := some ⟨l, a⟩ }, .done, triggerOptionBytes r.trigger⟩
    | _, _ => refuse s .badField

/-- BIND (R105). -/
def execBind (seq : Byte) (h : Handle) (line action : Byte) (s : State) : Host.Outcome State Fault Refusal :=
  s.request seq .run fun s => s.bindRecord h line action

/-- UNBIND at the record table (R106). -/
def State.unbindRecord (s : State) (h : Handle) : Answer :=
  match s.recordOf h with
  | none => refuse s .badHandle
  | some r => ⟨s.putRecord h.slot { r with trigger := none }, .done, triggerOptionBytes r.trigger⟩

/-- UNBIND (R106). -/
def execUnbind (seq : Byte) (h : Handle) (s : State) : Host.Outcome State Fault Refusal :=
  s.request seq .run fun s => s.unbindRecord h

end Sys2Proof.Machine
end

