-- ==== Sys2Proof/Machine/Notify.lean ====
section
/-! DEFINITION. FETCH and SET_ATTN (R136, R140, R183). -/

namespace Sys2Proof.Machine

/-- The entry type byte (R183). -/
def EntryContent.code : EntryContent → Byte
  | .record _ _ _ _ => 0
  | .system info =>
    match info.kind with
    | .coldStart => 1
    | .restored => 2
    | .resumed => 3
    | .checkpointDone => 4
    | .checkpointAbandoned => 5
    | .safeEntered => 6
    | .resetIssued => 7

/-- The bytes of FETCH's body from offset 13 (R183). -/
def EntryContent.bytes : EntryContent → List Byte
  | .record h tag _ kinds => bytesHandle h ++ bytes16 tag ++ [kinds.setWidth 8]
  | .system (.coldStart reason) => [reason.code]
  | .system (.restored generation origin savedNow parked lost) =>
    bytes32 generation ++ [origin.code] ++ bytes32 savedNow ++ count16 parked ++ count16 lost
  | .system (.resumed held origin ignored visited) =>
    bytes32 (BitVec.ofNat 32 held) ++ [origin.code, ignored] ++ count16 visited
  | .system (.checkpointDone generation) => bytes32 generation
  | .system (.checkpointAbandoned reason) => [reason.code]
  | .system (.safeEntered cause) => causeBytes (some cause)
  | .system (.resetIssued h) => bytesHandle h

/-- FETCH's body for an entry, with the number of entries left (R183). -/
def Entry.fetchBody (e : Entry) (left : Nat) : List Byte :=
  [e.content.code, BitVec.ofNat 8 e.priority, e.count] ++ bytes32 e.firstAt ++ bytes32 e.lastAt ++ count16 left ++
  e.content.bytes

/-- FETCH at the queue (R136). -/
def State.fetchEntry (s : State) : Answer :=
  match fetchIndex s.nq.entries with
  | none => refuse s .queueEmpty
  | some n =>
    match s.nq.entries[n]? with
    | none => refuse s .queueEmpty
    | some e =>
      let left := s.nq.entries.eraseIdx n
      ⟨{ s with nq := { s.nq with entries := left } }, .done, e.fetchBody left.length⟩

/-- FETCH (R136). -/
def execFetch (seq : Byte) (s : State) : Host.Outcome State Fault Refusal :=
  s.request seq .always fun s => s.fetchEntry

/-- SET_ATTN at the queue (R140): the response carries the previous threshold and the level of ATTN after the request. -/
def State.setThreshold (s : State) (threshold : Byte) : Answer :=
  match finOf 9 threshold with
  | none => refuse s .badField
  | some t =>
    let s' := { s with nq := { s.nq with threshold := t } }
    ⟨s', .done, [BitVec.ofNat 8 s.nq.threshold.val, assertedCode s'.attn]⟩

/-- SET_ATTN (R140). -/
def execSetAttn (seq threshold : Byte) (s : State) : Host.Outcome State Fault Refusal :=
  s.request seq .runOrRecovered fun s => s.setThreshold threshold

end Sys2Proof.Machine
end

