-- ==== Sys2Proof/Machine/Outputs.lean ====
section
/-! DEFINITION. ROUTE, SAFE, RELEASE and the end of the HRST pulse (R85, R117, R118, R125, R126). -/

namespace Sys2Proof.Machine

/-- A source type, in R115's order. -/
inductive SourceType
  | static | record | pair
deriving DecidableEq, Repr

/-- Source type (R115). -/
def sourceTypeOf (b : Byte) : Option SourceType :=
  match b.toNat with
  | 0 => some .static
  | 1 => some .record
  | 2 => some .pair
  | _ => none

/-- Which handle of a ROUTE names nothing, *a* as 0 or *b* as 1; handle a is tested first (R117, R176). -/
def State.badRouteHandle (s : State) (type : SourceType) (b : RouteBody) : Option Byte :=
  match type with
  | .static => none
  | .record => if (s.recordOf b.a).isNone then some 0 else none
  | .pair => if (s.recordOf b.a).isNone then some 0 else if (s.recordOf b.b).isNone then some 1 else none

/-- The source a ROUTE gives; none when its level, *invert* or operator is out of range (R117). -/
def routeSource (type : SourceType) (b : RouteBody) : Option Source :=
  match type with
  | .static => (boolOf b.item).map .static
  | .record => (boolOf b.item).map (.record b.a)
  | .pair => (pairOpOf b.item).map (.pair b.a b.b)

/-- ROUTE at the output unit (R117, R118): the source type is tested first, then the handles, then the other values. The response
carries the previous entry and the level the line drives after the request. -/
def State.routeOutput (s : State) (b : RouteBody) : Answer :=
  match sourceTypeOf b.sourceType with
  | none => refuse s .badField
  | some type =>
    match s.badRouteHandle type b with
    | some which => refuse s .badHandle [which]
    | none =>
      match finOf 16 b.output, boolOf b.safeLevel, routeSource type b with
      | some o, some safeLevel, some source =>
        let s' := { s with ou := { s.ou with routes := s.ou.routes.set o ⟨source, safeLevel⟩ }, freeCount := s.freeCount + 4 }
        ⟨s', .done,
          routeBytes s.ou.routes[o] (fun n => Config.freeByte (s.freeCount + n)) ++ [boolCode (s'.driven o)]⟩
      | _, _, _ => refuse s .badField

/-- ROUTE (R117, R118). -/
def execRoute (seq : Byte) (b : RouteBody) (s : State) : Host.Outcome State Fault Refusal :=
  s.request seq .run fun s => s.routeOutput b

/-- SAFE at the output unit (R125): *entered* and the cause in force. -/
def State.safeRequest (s : State) : Answer :=
  ⟨s.enterSafe .host s.td.now, .done, [boolCode s.ou.safe.isNone] ++ causeBytes (some (s.ou.safe.getD .host))⟩

/-- SAFE (R125). -/
def execSafe (seq : Byte) (s : State) : Host.Outcome State Fault Refusal :=
  s.request seq .run fun s => s.safeRequest

/-- RELEASE at the output unit (R126): BLOCKED names the lowest-numbered slot whose record blocks; *released* is the cause
removed. -/
def State.releaseSafe (s : State) : Answer :=
  match s.ou.safe with
  | none => ⟨s, .done, causeBytes none⟩
  | some cause =>
    match s.slotsWhere fun r => r.blocksRelease with
    | i :: _ => refuse s .blocked (bytesHandle (s.handleAt i))
    | [] => ⟨{ s with ou := { s.ou with safe := none } }, .done, causeBytes (some cause)⟩

/-- RELEASE (R126). -/
def execRelease (seq : Byte) (s : State) : Host.Outcome State Fault Refusal :=
  s.request seq .run fun s => s.releaseSafe

/-- HRST_PULSE_END: the pulse ends and the unit is idle (R85). -/
def execHrstPulseEnd (s : State) : Host.Outcome State Fault Refusal :=
  s.event fun s => { s with ou := { s.ou with hrst := none } }

end Sys2Proof.Machine
end

