-- ==== Sys2Proof/Machine/Records.lean ====
section
/-! DEFINITION. DEFINE, RETIRE, QUERY, FIND and MODIFY (chapter Records and Handles, R8 to R22). -/

namespace Sys2Proof.Machine

/-! ### DEFINE -/

/-- The new record of a DEFINE, or none when a value is out of its range or has no meaning for the kind (R5, R8, the BAD_FIELD
tests). -/
def definedRecord (d : DefineBody) : Option Record :=
  match kindOf d.kind, finOf 8 d.priority, notifyOf d.notify, consequenceOf d.consequence, holdPolicyOf d.holdPolicy with
  | some kind, some priority, some notify, some consequence, some holdPolicy =>
    if d.periodA = 0 then none
    else if kind.hasPeriodB != (d.periodB != 0) then none
    else if d.repeatCount != 0 && !kind.hasRepeat then none
    else if !kind.admitsNotify notify then none
    else some
      { kind := kind, timing := .idle, periodA := d.periodA, periodB := d.periodB, repeatCount := d.repeatCount,
        cyclesLeft := none, pending := Pending.none, priority := priority, notify := notify, consequence := consequence,
        holdPolicy := holdPolicy, tag := d.tag, trigger := none, group := none, missCount := 0 }
  | _, _, _, _, _ => none

/-- The lowest-numbered FREE slot (R9). -/
def State.lowestFree (s : State) : Option (Fin 256) := (List.finRange 256).find? fun i => (s.recordAt i).isNone

/-- A new record placed in a FREE slot, whose generation is incremented modulo 256 (R9). -/
def State.place (s : State) (i : Fin 256) (r : Record) : State :=
  { s with slots := s.slots.set i ⟨s.slots[i].gen + 1, some r⟩ }

/-- DEFINE at the record table (R8, R9). -/
def State.define (s : State) (d : DefineBody) : Answer :=
  match definedRecord d with
  | none => refuse s .badField
  | some r =>
    if !r.kind.admitsConsequence r.consequence then refuse s .badKind
    else
      match s.lowestFree with
      | none => refuse s .tableFull
      | some i => ⟨s.place i r, .done, bytesHandle ((s.place i r).handleAt i)⟩

/-- DEFINE (R8, R9). -/
def execDefine (seq : Byte) (d : DefineBody) (s : State) : Host.Outcome State Fault Refusal :=
  s.request seq .run fun s => s.define d

/-! ### RETIRE -/

/-- Whether a source names a handle, as the record of a RECORD or as either record of a PAIR (R10, R119). -/
def Source.names : Source → Handle → Bool
  | .static _, _ => false
  | .record h _, h' => h == h'
  | .pair a b _, h' => a == h' || b == h'

/-- The lowest-numbered output whose route names a handle (R10, R119). -/
def State.routedBy (s : State) (h : Handle) : Option (Fin 16) :=
  (List.finRange 16).find? fun o => s.ou.routes[o].source.names h

/-- Removes the record entry of a handle from the queue (R11, R138). -/
def State.dropEntry (s : State) (h : Handle) : State :=
  { s with nq := { s.nq with entries := s.nq.entries.filter fun e => !e.isOf h } }

/-- RETIRE at the record table (R10, R11). -/
def State.retire (s : State) (h : Handle) : Answer :=
  match s.recordOf h with
  | none => refuse s .badHandle
  | some _ =>
    match s.routedBy h with
    | some o => refuse s .inUse [BitVec.ofNat 8 o.val]
    | none => ⟨(s.dropEntry h).freeRecord h.slot, .done, [boolCode (s.nq.entries.any (·.isOf h))]⟩

/-- RETIRE (R10, R11). -/
def execRetire (seq : Byte) (h : Handle) (s : State) : Host.Outcome State Fault Refusal :=
  s.request seq .run fun s => s.retire h

/-! ### QUERY -/

/-- The presence set of QUERY's response (R4, R182). -/
def RecordOf.presence (r : Record) : BitVec 16 :=
  let bit (b : Bool) (n : Nat) : BitVec 16 := if b then 1#16 <<< n else 0
  let phase := r.timing != .idle
  let stopped := match r.timing with
    | .paused _ _ _ => true
    | .parked _ _ _ => true
    | _ => false
  let active := match r.timing with
    | .active _ _ _ _ => true
    | _ => false
  bit phase 0 ||| bit stopped 1 ||| bit r.kind.hasPeriodB 2 ||| bit r.kind.hasRepeat 3 ||| bit r.cyclesLeft.isSome 4 |||
  bit active 5 ||| bit active 6 ||| bit (active || stopped) 7 ||| bit r.pending.periodA.isSome 8 |||
  bit r.pending.periodB.isSome 9 ||| bit r.pending.repeatCount.isSome 10 ||| bit r.trigger.isSome 11 |||
  bit r.group.isSome 12 ||| bit r.kind.supervises 13

/-- Bytes 6 and 7 of QUERY's body and bytes 18 to 28, which depend on the state: Phase, Resume state, and Phase start, Due and
Remaining, each 0 where it is absent; Remaining of a RUNNING or LAPSED record is computed as Due − Now (R12, R182). -/
def Timing.queryBytes (t : Timing) (now : Time) : List Byte × List Byte :=
  match t with
  | .idle => ([0, 0], bytes32 0 ++ bytes32 0 ++ bytes24 0)
  | .active _ phase start due => ([phase.code, 0], bytes32 start ++ bytes32 due ++ bytes24 ((due - now).setWidth 24))
  | .paused run phase remaining => ([phase.code, run.code], bytes32 0 ++ bytes32 0 ++ bytes24 (remaining.setWidth 24))
  | .parked run phase remaining => ([phase.code, run.code], bytes32 0 ++ bytes32 0 ++ bytes24 (remaining.setWidth 24))

/-- The 48 bytes of QUERY's body (R182). -/
def RecordOf.queryBody (r : Record) (h : Handle) (now : Time) : List Byte :=
  let t := r.timing.queryBytes now
  bytesHandle h ++ [r.kind.code, r.timing.code] ++ bytes16 r.presence ++ t.1 ++
  bytes24 r.periodA ++ bytes24 r.periodB ++ bytes16 r.repeatCount ++ bytes16 (r.cyclesLeft.getD 0) ++ t.2 ++
  bytes24 (r.pending.periodA.getD 0) ++ bytes24 (r.pending.periodB.getD 0) ++ bytes16 (r.pending.repeatCount.getD 0) ++
  [BitVec.ofNat 8 r.priority.val, r.notify.code, r.consequence.code, r.holdPolicy.code] ++ bytes16 r.tag ++
  (match r.trigger with
    | some t => triggerBytes t
    | none => [0, 0]) ++
  [match r.group with
    | some g => BitVec.ofNat 8 g.val
    | none => 0,
   r.missCount, boolCode r.signal]

/-- QUERY at the record table (R12). -/
def State.query (s : State) (h : Handle) : Answer :=
  match s.recordOf h with
  | none => refuse s .badHandle
  | some r => ⟨s, .done, r.queryBody h s.td.now⟩

/-- QUERY (R12, R182). -/
def execQuery (seq : Byte) (h : Handle) (s : State) : Host.Outcome State Fault Refusal :=
  s.request seq .always fun s => s.query h

/-! ### FIND -/

/-- The slots FIND collects: the first eight at or above the start slot whose record carries the tag (R13). -/
def State.matching (s : State) (tag start : BitVec 16) : List (Fin 256) :=
  ((s.slotsWhere fun r => r.tag == tag).filter fun i => start.toNat ≤ i.val).take 8

/-- *Next slot*: one past the slot of the eighth match, or 256 when slot 255 has been examined or none was (R13). -/
def nextSlot (found : List (Fin 256)) : Nat :=
  match found[7]? with
  | some i => i.val + 1
  | none => 256

/-- FIND at the record table (R13). The layout of its body is log 13. -/
def State.find (s : State) (tag start : BitVec 16) : Answer :=
  if 256 < start.toNat then refuse s .badField
  else
    let found := s.matching tag start
    ⟨s, .done, [BitVec.ofNat 8 found.length] ++ (found.flatMap fun i => bytesHandle (s.handleAt i)) ++ count16 (nextSlot found)⟩

/-- FIND (R13). -/
def execFind (seq : Byte) (tag start : BitVec 16) (s : State) : Host.Outcome State Fault Refusal :=
  s.request seq .always fun s => s.find tag start

/-! ### MODIFY -/

/-- The mode of a MODIFY's timing values (R15). -/
inductive Mode
  | atBoundary | immediate
deriving DecidableEq, Repr

/-- A mode byte, in R15's order. -/
def modeOf (b : Byte) : Option Mode :=
  match b.toNat with
  | 0 => some .atBoundary
  | 1 => some .immediate
  | _ => none

/-- The items a MODIFY gives, each none when its presence bit is clear (R15, R180). `timing` holds the timing values given,
which are staged or written as `mode` says. -/
structure ModifyItems where
  priority : Option (Fin 8)
  notify : Option Notify
  consequence : Option Consequence
  holdPolicy : Option HoldPolicy
  tag : Option (BitVec 16)
  clearMiss : Bool
  timing : Pending
  mode : Mode
deriving DecidableEq, Repr

/-- An item given when its presence bit is set: none when it is given a value out of its range, some none when it is not
given. -/
def given {α : Type} (present : Bool) (value : Option α) : Option (Option α) :=
  if present then value.map some else some none

/-- A period a MODIFY gives: out of range when it is 0 (R4). -/
def periodOf (p : Period) : Option Period := if p = 0 then none else some p

/-- The items of a MODIFY body for a record of a kind, or none when a BAD_FIELD test fails (R5, R15, R180). -/
def modifyItems (kind : Kind) (m : ModifyBody) : Option ModifyItems :=
  let has (n : Nat) : Bool := m.presence.getLsbD n
  let timed := has 6 || has 7 || has 8
  match given (has 0) (finOf 8 m.priority), given (has 1) (notifyOf m.notify), given (has 2) (consequenceOf m.consequence),
        given (has 3) (holdPolicyOf m.holdPolicy), given (has 6) (periodOf m.periodA), given (has 7) (periodOf m.periodB),
        given timed (modeOf m.mode) with
  | some priority, some notify, some consequence, some holdPolicy, some periodA, some periodB, some mode =>
    if 512 ≤ m.presence.toNat then none
    else if has 7 && !kind.hasPeriodB then none
    else if has 8 && !kind.hasRepeat then none
    else if has 5 && !kind.supervises then none
    else if notify.any fun n => !kind.admitsNotify n then none
    else some
      { priority := priority, notify := notify, consequence := consequence, holdPolicy := holdPolicy,
        tag := if has 4 then some m.tag else none, clearMiss := has 5,
        timing := ⟨periodA, periodB, if has 8 then some m.repeatCount else none⟩,
        mode := mode.getD .atBoundary }
  | _, _, _, _, _, _, _ => none

/-- Whether a MODIFY gives IMMEDIATE timing values. -/
def ModifyItems.isImmediate (m : ModifyItems) : Bool := m.timing != Pending.none && m.mode == .immediate

/-- The items other than timing values, which take effect at once (R16). -/
def RecordOf.modifyItems (r : Record) (m : ModifyItems) : Record :=
  { r with
    priority := m.priority.getD r.priority
    notify := m.notify.getD r.notify
    consequence := m.consequence.getD r.consequence
    holdPolicy := m.holdPolicy.getD r.holdPolicy
    tag := m.tag.getD r.tag
    missCount := if m.clearMiss then 0 else r.missCount }

/-- The timing values staged in the Pending update: a given value replaces any pending value of its field (R17). -/
def RecordOf.stage (r : Record) (v : Pending) : Record :=
  { r with pending :=
      ⟨v.periodA.or r.pending.periodA, v.periodB.or r.pending.periodB, v.repeatCount.or r.pending.repeatCount⟩ }

/-- A field of the Pending update after a value of it was written at once: removed (R19). -/
def unstage {α : Type} (written pending : Option α) : Option α := if written.isSome then none else pending

/-- The timing values written at once, and removed from the Pending update (R19); on a RUNNING CADENCE record a given Repeat
count also sets Cycles left (R21). -/
def RecordOf.write (r : Record) (v : Pending) : Record :=
  { r with
    periodA := v.periodA.getD r.periodA
    periodB := v.periodB.getD r.periodB
    repeatCount := v.repeatCount.getD r.repeatCount
    cyclesLeft := match v.repeatCount, r.timing with
      | some n, .active _ _ _ _ => cyclesOf n
      | _, _ => r.cyclesLeft
    pending :=
      ⟨unstage v.periodA r.pending.periodA, unstage v.periodB r.pending.periodB, unstage v.repeatCount r.pending.repeatCount⟩ }

/-- The new period a MODIFY gives for a phase. -/
def Pending.period (v : Pending) : Phase → Option Period
  | .a => v.periodA
  | .b => v.periodB

/-- R20 on the record of slot `i`, already written: a given period of the current phase that is greater than the elapsed part
moves Due; one that is not takes the expiry at once at Now. The Boolean is *expired*. -/
def State.retime (s : State) (i : Fin 256) (r : Record) (v : Pending) : State × Bool :=
  match r.timing with
  | .active run phase start _ =>
    match v.period phase with
    | none => (s.putRecord i r, false)
    | some p =>
      if s.td.now - start < ticks p then
        (s.putRecord i { r with timing := .active run phase start (start + ticks p) }, false)
      else ((s.putRecord i r).expire i s.td.now, true)
  | _ => (s.putRecord i r, false)

/-- A MODIFY that passes its tests, in R22's order. The Boolean is *expired*. -/
def State.applyModify (s : State) (i : Fin 256) (r : Record) (m : ModifyItems) : State × Bool :=
  match m.mode with
  | .atBoundary => (s.putRecord i ((r.modifyItems m).stage m.timing), false)
  | .immediate => s.retime i ((r.modifyItems m).write m.timing) m.timing

/-- Whether a record is PAUSED. -/
def Timing.isPaused : Timing → Bool
  | .paused _ _ _ => true
  | _ => false

/-- MODIFY at the record table (R15 to R22). -/
def State.modify (s : State) (h : Handle) (b : ModifyBody) : Answer :=
  match s.recordOf h with
  | none => refuse s .badHandle
  | some r =>
    match modifyItems r.kind b with
    | none => refuse s .badField
    | some m =>
      if m.consequence.any fun c => !r.kind.admitsConsequence c then refuse s .badKind
      else if m.isImmediate && r.timing.isPaused then refuse s .badState
      else
        let res := s.applyModify h.slot r m
        ⟨res.1, .done, [boolCode res.2]⟩

/-- MODIFY (R15 to R22). -/
def execModify (seq : Byte) (h : Handle) (m : ModifyBody) (s : State) : Host.Outcome State Fault Refusal :=
  s.request seq .run fun s => s.modify h m

end Sys2Proof.Machine
end

