-- ==== Sys2Proof/Machine/Timed.lean ====
section
/-! DEFINITION. SET_TICK, START, STOP, RESTART, PAUSE and CONTINUE (R28, R43 to R52). -/

namespace Sys2Proof.Machine

/-! ### SET_TICK -/

/-- The divider is restarted: the next tick comes one full tick period later (R27). -/
def State.restartDivider (s : State) : State := { s with td := { s.td with divider := 0 } }

/-- SET_TICK at the timebase (R28): refused while any record is not IDLE, with the handle of the lowest-numbered such slot. -/
def State.setTick (s : State) (period : Byte) : Answer :=
  match tickPeriodOf period with
  | none => refuse s .badField
  | some p =>
    match s.slotsWhere fun r => r.timing != .idle with
    | i :: _ => refuse s .badState (bytesHandle (s.handleAt i))
    | [] => ⟨{ s with td := { s.td with tickPeriod := p } }.restartDivider, .done, []⟩

/-- SET_TICK (R28). -/
def execSetTick (seq period : Byte) (s : State) : Host.Outcome State Fault Refusal :=
  s.request seq .run fun s => s.setTick period

/-! ### START, STOP, RESTART, PAUSE and CONTINUE

Each carries one handle and is tested for BAD_HANDLE and then for BAD_STATE (R43). -/

/-- START at the record table (R44). -/
def State.startRecord (s : State) (h : Handle) : Answer :=
  match s.recordOf h with
  | none => refuse s .badHandle
  | some r =>
    match r.start? s.td.now with
    | none => refuse s .badState
    | some r' => ⟨s.putRecord h.slot r', .done, bytes32 (s.td.now + ticks r'.periodA)⟩

/-- START (R44, R45). -/
def execStart (seq : Byte) (h : Handle) (s : State) : Host.Outcome State Fault Refusal :=
  s.request seq .run fun s => s.startRecord h

/-- STOP at the record table (R46): of an IDLE record it changes nothing and answers IDLE. -/
def State.stopRecord (s : State) (h : Handle) : Answer :=
  match s.recordOf h with
  | none => refuse s .badHandle
  | some r =>
    match r.stop? with
    | none => ⟨s, .done, [r.timing.code]⟩
    | some r' => ⟨s.putRecord h.slot r', .done, [r.timing.code]⟩

/-- STOP (R46, R47). -/
def execStop (seq : Byte) (h : Handle) (s : State) : Host.Outcome State Fault Refusal :=
  s.request seq .run fun s => s.stopRecord h

/-- RESTART at the record table (R48). -/
def State.restartRecord (s : State) (h : Handle) : Answer :=
  match s.recordOf h with
  | none => refuse s .badHandle
  | some r =>
    match r.restart? s.td.now with
    | none => refuse s .badState
    | some r' => ⟨s.putRecord h.slot r', .done, bytes32 (s.td.now + ticks r'.periodA)⟩

/-- RESTART (R48, R49). -/
def execRestart (seq : Byte) (h : Handle) (s : State) : Host.Outcome State Fault Refusal :=
  s.request seq .run fun s => s.restartRecord h

/-- PAUSE at the record table (R50). -/
def State.pauseRecord (s : State) (h : Handle) : Answer :=
  match s.recordOf h with
  | none => refuse s .badHandle
  | some r =>
    match r.pause? s.td.now with
    | none => refuse s .badState
    | some (r', remaining) => ⟨s.putRecord h.slot r', .done, bytes24 (remaining.setWidth 24)⟩

/-- PAUSE (R50). -/
def execPause (seq : Byte) (h : Handle) (s : State) : Host.Outcome State Fault Refusal :=
  s.request seq .run fun s => s.pauseRecord h

/-- CONTINUE at the record table (R51). -/
def State.continueRecord (s : State) (h : Handle) : Answer :=
  match s.recordOf h with
  | none => refuse s .badHandle
  | some r =>
    match r.continue? s.td.now with
    | none => refuse s .badState
    | some (r', due) => ⟨s.putRecord h.slot r', .done, bytes32 due⟩

/-- CONTINUE (R51). -/
def execContinue (seq : Byte) (h : Handle) (s : State) : Host.Outcome State Fault Refusal :=
  s.request seq .run fun s => s.continueRecord h

end Sys2Proof.Machine
end

