-- ==== Sys2Proof/Machine/Dispatch.lean ====
section
/-! DEFINITION. The dispatch of commands to their meanings, one arm for each constructor of Instr. -/

namespace Sys2Proof.Machine

def exec (i : Instr) (s : State) : Host.Outcome State Fault Refusal :=
  match i with
  | .powerOn pwarn rstn => Sys2Proof.Machine.execPowerOn pwarn rstn s
  | .supplyLost => Sys2Proof.Machine.execSupplyLost s
  | .rstnAsserted => Sys2Proof.Machine.execRstnAsserted s
  | .rstnReleased => Sys2Proof.Machine.execRstnReleased s
  | .loadingComplete levels => Sys2Proof.Machine.execLoadingComplete levels s
  | .pwarnAsserted => Sys2Proof.Machine.execPwarnAsserted s
  | .pwarnWithdrawn => Sys2Proof.Machine.execPwarnWithdrawn s
  | .holdSaveComplete => Sys2Proof.Machine.execHoldSaveComplete s
  | .checkpointComplete => Sys2Proof.Machine.execCheckpointComplete s
  | .tick => Sys2Proof.Machine.execTick s
  | .expiry => Sys2Proof.Machine.execExpiry s
  | .hrstPulseEnd => Sys2Proof.Machine.execHrstPulseEnd s
  | .candidateAccepted line => Sys2Proof.Machine.execCandidateAccepted line s
  | .ignoredFrame => Sys2Proof.Machine.execIgnoredFrame s
  | .emptyFrame => Sys2Proof.Machine.execEmptyFrame s
  | .starting bytes => Sys2Proof.Machine.execStarting bytes s
  | .frameError bytes => Sys2Proof.Machine.execFrameError bytes s
  | .duplicate seq code body => Sys2Proof.Machine.execDuplicate seq code body s
  | .badRequest seq code body => Sys2Proof.Machine.execBadRequest seq code body s
  | .nop seq => Sys2Proof.Machine.execNop seq s
  | .status seq => Sys2Proof.Machine.execStatus seq s
  | .clear seq => Sys2Proof.Machine.execClear seq s
  | .define seq d => Sys2Proof.Machine.execDefine seq d s
  | .retire seq h => Sys2Proof.Machine.execRetire seq h s
  | .query seq h => Sys2Proof.Machine.execQuery seq h s
  | .find seq tag start => Sys2Proof.Machine.execFind seq tag start s
  | .modify seq h m => Sys2Proof.Machine.execModify seq h m s
  | .setTick seq period => Sys2Proof.Machine.execSetTick seq period s
  | .start seq h => Sys2Proof.Machine.execStart seq h s
  | .stop seq h => Sys2Proof.Machine.execStop seq h s
  | .restart seq h => Sys2Proof.Machine.execRestart seq h s
  | .pause seq h => Sys2Proof.Machine.execPause seq h s
  | .continueRecord seq h => Sys2Proof.Machine.execContinue seq h s
  | .renew seq h => Sys2Proof.Machine.execRenew seq h s
  | .join seq h group => Sys2Proof.Machine.execJoin seq h group s
  | .leave seq h => Sys2Proof.Machine.execLeave seq h s
  | .groupStart seq group restartRunning => Sys2Proof.Machine.execGroupStart seq group restartRunning s
  | .groupStop seq group => Sys2Proof.Machine.execGroupStop seq group s
  | .groupPause seq group => Sys2Proof.Machine.execGroupPause seq group s
  | .groupContinue seq group => Sys2Proof.Machine.execGroupContinue seq group s
  | .setLine seq line edgeSelect filterWidth => Sys2Proof.Machine.execSetLine seq line edgeSelect filterWidth s
  | .bind seq h line action => Sys2Proof.Machine.execBind seq h line action s
  | .unbind seq h => Sys2Proof.Machine.execUnbind seq h s
  | .route seq r => Sys2Proof.Machine.execRoute seq r s
  | .safe seq => Sys2Proof.Machine.execSafe seq s
  | .release seq => Sys2Proof.Machine.execRelease seq s
  | .fetch seq => Sys2Proof.Machine.execFetch seq s
  | .setAttn seq threshold => Sys2Proof.Machine.execSetAttn seq threshold s
  | .checkpoint seq => Sys2Proof.Machine.execCheckpoint seq s
  | .resume seq outage => Sys2Proof.Machine.execResume seq outage s
  | .discard seq => Sys2Proof.Machine.execDiscard seq s
  | .sampledLevelChange line level => Sys2Proof.Machine.execSampledLevelChange line level s
  | .csnFallingEdge soon => Sys2Proof.Machine.execCsnFallingEdge soon s
  | .storeContentsLost => Sys2Proof.Machine.execStoreContentsLost s

end Sys2Proof.Machine
end

