-- ==== Sys2Proof/Safety.lean ====
section
/-! DEFINITION. The terms that claims use: when a request frame is accepted, how the part stands after an answer, which expiry comes
next, and the invariants of the part. -/

namespace Sys2Proof.Machine

/-! ### Readiness -/

/-- No expiry is outstanding: in RUN no record's Due is Now (R39). -/
abbrev State.settled (s : State) : Prop := s.pr.power = .run → ∀ i : Fin 256, s.dueAt i ≠ some s.td.now

/-- A powered part in this power state, with no expiry outstanding. -/
abbrev State.steady (s : State) (p : PowerState) : Prop := s.supply = true ∧ s.pr.power = p ∧ s.settled

/-- The frame that ends now was not begun too soon and met no LOADING (R173 tests 1 and 3). -/
abbrev State.frameClean (s : State) : Prop := (s.hp.frame.all fun f => !f.ignored && !f.metLoading) = true

/-- A good frame with this SEQ that ends now is accepted for execution in this power state: it passes the tests of R173. -/
abbrev State.ready (s : State) (p : PowerState) (seq : Byte) : Prop :=
  s.steady p ∧ p ≠ .loading ∧ s.frameClean ∧ s.hp.lastSeq ≠ some seq

/-- The port after a request with this SEQ was executed or refused with this status and body (R176 step 4). -/
def answered (seq : Byte) (status : Status) (body : List Byte) : HostPort :=
  { lastSeq := some seq, lastResponse := some ⟨seq, status, body⟩, held := ⟨seq, status, body⟩, frame := none }

/-- The part with nothing changed outside the port, which has answered a request so. -/
def State.answering (s : State) (seq : Byte) (status : Status) (body : List Byte) : State :=
  { s with hp := answered seq status body }

/-- The part with nothing changed but that no frame is in progress any more. -/
def State.frameOver (s : State) : State := { s with hp := { s.hp with frame := none } }

/-- The part with nothing changed but that the frame in progress has ended and the held response is this. -/
def State.holding (s : State) (r : Response) : State := { s with hp := { s.hp with held := r, frame := none } }

/-- Outside RUN a request is turned away by the power state alone, with HOLDING in HOLD and PARKED and NOT_RESUMED in RECOVERED
(R150). -/
def refusedOutsideRun (c : Instr) (seq : Byte) : Prop :=
  ∀ s : State,
    (s.ready .hold seq ∨ s.ready .parked seq → exec c s = .next (s.answering seq .holding [])) ∧
    (s.ready .recovered seq → exec c s = .next (s.answering seq .notResumed []))

/-- The first byte of the frame whose end a command is; none for a command that is no end of a frame with a whole byte. -/
def frameSeq (c : Instr) : Option Byte :=
  match c with
  | .starting bytes => bytes.head?
  | .frameError bytes => bytes.head?
  | .duplicate seq _ _ => some seq
  | .badRequest seq _ _ => some seq
  | _ => (requestFields c).map (·.1)

/-- The record of slot `i` has come due and no other record that has comes before it in the due order: of equal distances the higher
Priority is first, then the lower slot (R35, R39). -/
abbrev State.firstDue (s : State) (i : Fin 256) : Prop :=
  s.supply = true ∧ s.pr.power = .run ∧ s.dueAt i = some s.td.now ∧
  ∀ j : Fin 256, j ≠ i → s.dueAt j = some s.td.now →
    s.priorityAt j < s.priorityAt i ∨ (s.priorityAt j = s.priorityAt i ∧ i.val < j.val)

/-- The part after the expiries of slot `i`'s record have been taken one after another, each at the Due that stood then, as long as that
Due was past at the new Now (R31, R168 step 2). -/
def State.caughtUp (s u : State) (i : Fin 256) (newNow : Time) : Prop :=
  let past (due : Time) : Prop := due - newNow = 0 ∨ (due - newNow).msb = true
  ∃ dues : List Time,
    let taken (k : Nat) : State := (dues.take k).foldl (fun v due => v.expire i due) s
    u = taken dues.length ∧
    (∀ (k : Nat) (due : Time), dues[k]? = some due → (taken k).dueAt i = some due ∧ past due) ∧
    ∀ due : Time, u.dueAt i = some due → ¬ past due

/-! ### Images and banks in the rules' terms (R156 to R158) -/

/-- The target of a write and its generation (R158 step 1): bank 0 and 1 when no bank is valid; otherwise the bank that does not hold the
newest valid image, with that image's generation plus 1, or 1 after 4,294,967,295. -/
def PowerUnit.isTarget (p : PowerUnit) (b : Fin 2) (g : BitVec 32) : Prop :=
  (p.banks[(0 : Fin 2)] = none ∧ p.banks[(1 : Fin 2)] = none ∧ b = 0 ∧ g = 1) ∨
  ∃ (c : Fin 2) (x : BankInfo), c ≠ b ∧ p.banks[c] = some x ∧ (∀ y, p.banks[b] = some y → y.generation < x.generation) ∧
    g = if x.generation = 4294967295#32 then 1 else x.generation + 1

/-- What an image of the part holds (R157): the header's items, every slot's generation and record with Remaining in place of Due and
Phase start, the routes and the lines' configurations. -/
def State.imagedBy (s : State) (img : Image) (origin : Origin) (g : BitVec 32) : Prop :=
  img.generation = g ∧ img.origin = origin ∧ img.savedNow = s.td.now ∧ img.tickPeriod = s.td.tickPeriod ∧
  img.threshold = s.nq.threshold ∧ img.safe = s.ou.safe ∧ img.queueSize = s.nq.entries.length ∧
  img.recordCount = ((List.finRange 256).filter fun i => (s.recordAt i).isSome).length ∧
  img.routes = s.ou.routes ∧ (∀ l : Fin 8, img.lines[l] = s.lu.lines[l].config) ∧
  ∀ i : Fin 256, img.slots[i].gen = s.slots[i].gen ∧
    img.slots[i].record = (s.recordAt i).map fun r =>
      { r with timing := match r.timing with
          | .idle => SavedTiming.idle
          | .active run phase _ due => .active run phase (due - s.td.now)
          | .paused run phase remaining => .paused run phase remaining
          | .parked run phase remaining => .active run phase remaining }

/-- The completion of a write of an image into bank `b`, from the store and the banks before it to those after (R158 step 4): the target
holds the image under its marker and is the valid bank of its generation; the other bank is as it was, but at the wrap of
generations, where its marker is erased. -/
def bankWritten (p q : PowerUnit) (b : Fin 2) (img : Image) : Prop :=
  q.store[b] = ⟨true, some ⟨img, imageCrc img⟩⟩ ∧ q.banks[b] = some ⟨img.generation, img.origin⟩ ∧
  ∀ c : Fin 2, c ≠ b →
    ((∃ y, p.banks[c] = some y ∧ y.generation = 4294967295#32) →
      q.store[c] = { p.store[c] with marker := false } ∧ q.banks[c] = none) ∧
    ((∀ y, p.banks[c] = some y → y.generation ≠ 4294967295#32) → q.store[c] = p.store[c] ∧ q.banks[c] = p.banks[c])

/-! ### What a MODIFY carries (R15, R16) -/

/-- A MODIFY gives a timing value (R180). -/
abbrev modifyTimed (m : ModifyBody) : Prop :=
  m.presence.getLsbD 6 = true ∨ m.presence.getLsbD 7 = true ∨ m.presence.getLsbD 8 = true

/-- A MODIFY passes the BAD_FIELD tests on a record of this kind (R5, R15, R180). -/
abbrev modifyFields (m : ModifyBody) (k : Kind) : Prop :=
  m.presence.toNat < 512 ∧ (m.presence.getLsbD 0 = true → m.priority.toNat < 8) ∧
  (m.presence.getLsbD 1 = true → m.notify.toNat < 4 ∧ (k = .oneshot ∨ k = .supervise → m.notify = 0) ∧
    (k = .window → m.notify.getLsbD 1 = false)) ∧
  (m.presence.getLsbD 2 = true → m.consequence.toNat < 3) ∧ (m.presence.getLsbD 3 = true → m.holdPolicy.toNat < 2) ∧
  (m.presence.getLsbD 5 = true → k = .supervise ∨ k = .window) ∧ (m.presence.getLsbD 6 = true → m.periodA ≠ 0) ∧
  (m.presence.getLsbD 7 = true → m.periodB ≠ 0 ∧ (k = .cadence ∨ k = .window)) ∧
  (m.presence.getLsbD 8 = true → k = .cadence) ∧ (modifyTimed m → m.mode.toNat < 2)

/-- A MODIFY passes the BAD_KIND test on a record of this kind (R15). -/
abbrev modifyKinds (m : ModifyBody) (k : Kind) : Prop :=
  m.presence.getLsbD 2 = true → m.consequence ≠ 0 → k = .supervise ∨ k = .window

/-- `r'` is `r` with the given items that are not timing values written (R16), whatever became of its timing values; Kind, State,
Trigger and Group are kept. -/
def itemsWritten (m : ModifyBody) (r r' : Record) : Prop :=
  (if m.presence.getLsbD 0 = true then r'.priority.val = m.priority.toNat else r'.priority = r.priority) ∧
  (if m.presence.getLsbD 1 = true then
    r'.notify.phase = m.notify.getLsbD 0 ∧ r'.notify.cycle = m.notify.getLsbD 1 else r'.notify = r.notify) ∧
  (if m.presence.getLsbD 2 = true then r'.consequence.code = m.consequence else r'.consequence = r.consequence) ∧
  (if m.presence.getLsbD 3 = true then r'.holdPolicy.code = m.holdPolicy else r'.holdPolicy = r.holdPolicy) ∧
  r'.tag = (if m.presence.getLsbD 4 = true then m.tag else r.tag) ∧
  r'.missCount = (if m.presence.getLsbD 5 = true then 0 else r.missCount) ∧
  r'.kind = r.kind ∧ r'.timing = r.timing ∧ r'.trigger = r.trigger ∧ r'.group = r.group

/-! ### What holds of one record (R4, R5) -/

/-- The items of a record are within R4's ranges and present as its kind has them (R4, R5). -/
def RecordOf.itemsWf {τ : Type} (r : RecordOf τ) : Bool :=
  r.periodA != 0 && (r.kind.hasPeriodB == (r.periodB != 0)) && (r.kind.hasRepeat || r.repeatCount == 0) &&
  (r.kind.supervises || r.missCount == 0) && r.kind.admitsNotify r.notify && r.kind.admitsConsequence r.consequence &&
  r.pending.periodA != some 0 && r.pending.periodB != some 0 && (r.kind.hasPeriodB || r.pending.periodB == none) &&
  (r.kind.hasRepeat || r.pending.repeatCount == none) && (r.kind.supervises || r.trigger.all fun t => t.action != .renew)

/-- Phase is B only for CADENCE and WINDOW records, and LAPSED, as State or as Resume state, only for SUPERVISE and WINDOW ones
(R4, R6). -/
def Kind.admitsPhase (k : Kind) (run : Run) (phase : Phase) : Bool :=
  (k.hasPeriodB || phase == .a) && (k.supervises || run == .running)

/-- Cycles left is present exactly when the kind is CADENCE, Repeat count is not 0 and the state is not IDLE, and is then at least 1
(R4, R58). -/
def RecordOf.cyclesWf {τ : Type} (r : RecordOf τ) (idle : Bool) : Bool :=
  (r.cyclesLeft.isSome == (r.kind == .cadence && r.repeatCount != 0 && !idle)) && r.cyclesLeft != some 0

/-- A record of the table holds what R4 to R6 let it hold, and a timing phase ends one period after its Phase start. -/
def RecordOf.wf (r : Record) : Bool :=
  r.itemsWf &&
  match r.timing with
  | .idle => r.cyclesWf true
  | .active run phase start due =>
    r.cyclesWf false && r.kind.admitsPhase run phase && due == start + ticks (r.period phase)
  | .paused run phase _ => r.cyclesWf false && r.kind.admitsPhase run phase
  | .parked run phase _ => r.cyclesWf false && r.kind.admitsPhase run phase

/-- The same of a record of an image. -/
def RecordOf.savedWf (r : SavedRecord) : Bool :=
  r.itemsWf &&
  match r.timing with
  | .idle => r.cyclesWf true
  | .active run phase _ => r.cyclesWf false && r.kind.admitsPhase run phase
  | .paused run phase _ => r.cyclesWf false && r.kind.admitsPhase run phase

/-- Every image that the part may come to load, the snapshot in flight and the contents of the banks, satisfies `p`. -/
abbrev State.imagesSatisfy (s : State) (p : Image → Bool) : Prop :=
  (s.pr.checkpoint.all fun c => p c.snapshot) = true ∧
  ∀ b : Fin 2, (s.pr.store[b].content.all fun st => p st.image) = true

/-- Every record of an image satisfies `p`. -/
def Image.recordsSatisfy (img : Image) (p : SavedRecord → Bool) : Bool :=
  (List.finRange 256).all fun i => img.slots[i].record.all p

/-- Every record of the table and of every image is within R4 to R6. -/
abbrev State.recordsWf (s : State) : Prop :=
  (∀ i : Fin 256, ((s.recordAt i).all fun r => r.wf) = true) ∧
  s.imagesSatisfy fun img => img.recordsSatisfy fun r => r.savedWf

/-! ### What holds of dues (R31, R50) -/

/-- A Remaining lies from 1 to a period (R50). -/
def remainingWf (remaining : Time) (p : Period) : Bool := remaining != 0 && remaining ≤ ticks p

/-- The distance of a timing record's Due lies within its phase's period, and is 0 only in RUN, at the moment of its expiry, or in
LOADING, where the table waits to be replaced; a PAUSED or PARKED record's Remaining lies within it (R31, R39, R50). -/
def RecordOf.dueWf (r : Record) (power : PowerState) (now : Time) : Bool :=
  match r.timing with
  | .idle => true
  | .active _ phase _ due => due - now ≤ ticks (r.period phase) && ((power != .hold && power != .parked) || due != now)
  | .paused _ phase remaining => remainingWf remaining (r.period phase)
  | .parked _ phase remaining => remainingWf remaining (r.period phase)

/-- The same of a record of an image. -/
def RecordOf.savedDueWf (r : SavedRecord) : Bool :=
  match r.timing with
  | .idle => true
  | .active _ phase remaining => remainingWf remaining (r.period phase)
  | .paused _ phase remaining => remainingWf remaining (r.period phase)

/-- Every distance and every Remaining, in the table and in the images, is in range, and the hold counter is (R31, R32). -/
abbrev State.duesWf (s : State) : Prop :=
  (∀ i : Fin 256, ((s.recordAt i).all fun r => r.dueWf s.pr.power s.td.now) = true) ∧ s.td.holdCounter ≤ Config.holdMax ∧
  s.imagesSatisfy fun img => img.recordsSatisfy fun r => r.savedDueWf

/-! ### What holds of the power state (R6, R33, R113, R146, R151 to R154, R163) -/

/-- The handle of a record entry; none of a system entry. -/
def Entry.handle? (e : Entry) : Option Handle :=
  match e.content with
  | .record h _ _ _ => some h
  | .system _ => none

/-- What each power state implies of the other blocks: PARKED records exist only in RECOVERED, which holds no timing record; the
ignored-edge set is empty in RUN, which PWARN asserted ends; a save is in flight exactly in HOLD and a checkpoint only in RUN; the
queue is empty in LOADING, and RECOVERED queues no occurrence. -/
abbrev State.modesWf (s : State) : Prop :=
  (s.pr.checkpoint.isSome = true → s.pr.power = .run) ∧
  (s.pr.power = .loading → s.nq.entries = [] ∧ s.pr.save = none ∧ s.hp.lastSeq = none) ∧
  (s.pr.power = .recovered →
    s.pr.save = none ∧ (∀ i : Fin 256, s.dueAt i = none) ∧ ∀ e ∈ s.nq.entries, e.handle? = none) ∧
  (s.pr.power = .run → s.pr.save = none ∧ s.lu.ignored = 0 ∧ (s.supply = true → s.pr.pwarn = false)) ∧
  (s.pr.power = .hold → s.supply = true → s.pr.save.isSome = true) ∧
  (s.pr.power = .parked → s.pr.save = none) ∧
  (s.pr.power ≠ .recovered → s.pr.power ≠ .loading → ∀ i : Fin 256, s.parkedAt i = none)

/-! ### What holds of the queue and of handles (R119, R130, R132, R145) -/

/-- Two entries are of one handle or of one system kind. -/
def Entry.sameSubject (e f : Entry) : Bool :=
  match e.content, f.content with
  | .record h _ _ _, .record h' _ _ _ => h == h'
  | .system i, .system j => i.kind == j.kind
  | _, _ => false

/-- An entry's count is at least 1, and a record entry's kind set is not empty (R130, R131). -/
def Entry.wf (e : Entry) : Bool :=
  e.count != 0 &&
  match e.content with
  | .record _ _ _ kinds => kinds != 0
  | .system _ => true

/-- The queue holds at most one record entry for any handle and one system entry of any kind, each well formed (R130 to R132). -/
abbrev State.queueWf (s : State) : Prop :=
  s.nq.entries.Pairwise (fun e f => e.sameSubject f = false) ∧ ∀ e ∈ s.nq.entries, e.wf = true

/-- The handles a source names (R115). -/
def Source.handles : Source → List Handle
  | .static _ => []
  | .record h _ => [h]
  | .pair a b _ => [a, b]

/-- A handle that a slot of an image makes name a record. -/
def Image.names (i : Image) (h : Handle) : Bool := i.slots[h.slot].gen == h.gen && i.slots[h.slot].record.isSome

/-- Every handle of the route table and of the queue's record entries names a record, and so does every handle of an image's routes
(R11, R119, R145). -/
abbrev State.handlesWf (s : State) : Prop :=
  (∀ o : Fin 16, (s.ou.routes[o].source.handles.all fun h => (s.recordOf h).isSome) = true) ∧
  (∀ e ∈ s.nq.entries, (e.handle?.all fun h => (s.recordOf h).isSome) = true) ∧
  s.imagesSatisfy fun img => (List.finRange 16).all fun o => img.routes[o].source.handles.all fun h => img.names h

/-! ### What holds of the banks (R156, R158, R159) -/

/-- The generation of a bank of the store that is valid; none of one that is not (R147). -/
def Bank.generation? (b : Bank) : Option (BitVec 32) := b.judge.map (·.generation)

/-- A write of this generation into this bank may complete: the target is invalid in the store and in what the power and retention unit
holds, and the other bank is not valid with that generation (R158, R159). -/
abbrev PowerUnit.writable (p : PowerUnit) (b : Fin 2) (g : BitVec 32) : Prop :=
  p.store[b].marker = false ∧ p.banks[b] = none ∧ p.store[otherBank b].generation? ≠ some g

/-- Two valid banks never carry the same generation, what the power and retention unit holds of each bank is what the store holds
outside LOADING while the part is powered, and every write in flight may complete (R156, R159). -/
abbrev State.banksWf (s : State) : Prop :=
  (s.pr.store[(0 : Fin 2)].generation? = none ∨
    s.pr.store[(0 : Fin 2)].generation? ≠ s.pr.store[(1 : Fin 2)].generation?) ∧
  (s.supply = true → s.pr.power ≠ .loading → ∀ b : Fin 2, s.pr.banks[b] = s.pr.store[b].judge) ∧
  (∀ c, s.pr.checkpoint = some c →
    s.supply = true ∧ s.pr.power ≠ .loading ∧ c.snapshot.generation = c.generation ∧ s.pr.writable c.bank c.generation) ∧
  (∀ f, s.pr.save = some f → s.supply = true ∧ s.pr.power ≠ .loading ∧ s.pr.writable f.bank f.generation)

end Sys2Proof.Machine
end

