-- ==== Sys2Proof/WellFormed.lean ====
section
/-! DEFINITION. Which commands are well formed: what a port event says of its own bytes is true of them. The other commands
carry no such claim. A meaning does not assume it: a command that is not well formed names an event that does not occur, and
has no effect (log 6). -/

namespace Sys2Proof

/-- R173 to R176: STARTING and FRAME_ERROR carry at least one whole byte, FRAME_ERROR's bytes are a bad frame, DUPLICATE and
BAD_REQUEST carry a body that a good frame can carry, and BAD_REQUEST's CODE is unknown or its LEN wrong for its CODE. -/
def wellFormed : Instr → Bool
  | .starting bytes => bytes != []
  | .frameError bytes => bytes != [] && (frameDefect bytes).isSome
  | .duplicate _ _ body => body.length ≤ 32
  | .badRequest _ code body => body.length ≤ 32 && requestLength code != some body.length
  | _ => true

end Sys2Proof
end

