-- ==== Sys2Proof/Certificates/Slice0/Obligations.lean ====
section
/-! DEFINITION. The statements about the model, for the provers. Each follows the numbered rules of spec/ that its entry in
OBLIGATIONS.json cites. -/

open Sys2Proof Sys2Proof.Machine

/-! ### The machine -/

/-- A step with a command waiting is exec of the command at the front of the queue, with the queue's rest. -/
def Obligations.StepRunsFrontCommand : Prop :=
  ∀ (c : Instr) (s : State) (rest : List Instr), s.pending = c :: rest → step s = exec c { s with pending := rest }

/-- With no command waiting (the model's choice, log 4): an unpowered part idles; an outstanding expiry is queued; otherwise one REFCLK
cycle passes, the divider (outside LOADING), the HRST pulse and the clock of the filters count it, and the events it completes are
queued: a pulse that has lasted 8,000 cycles, a candidate held for 4 × w cycles, a divider that has counted a tick (R27, R85, R100). -/
def Obligations.IdleStepPassesOneCycle : Prop :=
  ∀ s : State, s.pending = [] →
    (s.supply = false → step s = .next s) ∧
    (s.supply = true → s.pr.power = .run → (∃ i : Fin 256, s.dueAt i = some s.td.now) →
      step s = .next { s with pending := [.expiry] }) ∧
    (s.supply = true → s.settled →
      step s = .next { s with
        td := { s.td with divider := if s.pr.power = .loading then s.td.divider else s.td.divider + 1 }
        ou := { s.ou with hrst := s.ou.hrst.map (· + 1) }
        refclk := s.refclk + 1
        pending :=
          (if (s.ou.hrst.any fun n => 8000 ≤ n + 1) = true then [Instr.hrstPulseEnd] else []) ++
          ((List.finRange 8).filter fun l => s.pr.power != .loading &&
            (s.lu.lines[l].candidate.any fun c => c.start + 4 * s.lu.lines[l].config.filterWidth.val ≤ s.refclk + 1)).map
              Instr.candidateAccepted ++
          (if s.pr.power ≠ .loading ∧ s.td.tickPeriod.cycles ≤ s.td.divider + 1 then [Instr.tick] else []) })

/-- Every command in every state answers a next state, and neither the queue of waiting commands nor the REFCLK clock is changed by
one. That a command takes no REFCLK cycle is the model's choice (log 4), and so is that the command of an event which cannot occur in a
state, or at an unpowered part, answers that state (log 6, log 7). -/
def Obligations.EveryCommandAnswersNext : Prop :=
  ∀ (c : Instr) (s : State), ∃ t : State, exec c s = .next t ∧ t.pending = s.pending ∧ t.refclk = s.refclk

/-- The values the rules give the part at power-on, with LOADING just begun: the power state, the empty queue, the hold counter 0, no
write in flight, the idle HRST pulse, the port's state, every output at 0 and ATTN deasserted (R32, R85, R120, R141, R146, R177). The
other fields of the reset state are the model's choice (log 1, 2 and 3) and no value of them is stated. The six invariants that the
last statements say every step keeps hold there. -/
def Obligations.ResetBeginsLoading : Prop :=
  State.reset.pr.power = .loading ∧ State.reset.nq.entries = [] ∧ State.reset.td.holdCounter = 0 ∧
  State.reset.pr.checkpoint = none ∧ State.reset.pr.save = none ∧ State.reset.ou.hrst = none ∧ State.reset.hrstHigh = true ∧
  State.reset.hp.lastSeq = none ∧ State.reset.hp.lastResponse = none ∧ State.reset.hp.held = ⟨0, .starting, []⟩ ∧
  (∀ o : Fin 16, State.reset.driven o = false) ∧ State.reset.attn = false ∧ State.reset.supply = true ∧
  State.reset.recordsWf ∧ State.reset.duesWf ∧ State.reset.modesWf ∧ State.reset.queueWf ∧ State.reset.handlesWf ∧
  State.reset.banksWf

/-! ### The host port -/

/-- A frame that carries a request, followed by any bytes, is read as that request with every item at every value (R171, R180,
R181). -/
def Obligations.DecodeEncodedRequest : Prop :=
  ∀ (i : Instr) (bytes extra : List Byte), encodeFrame i = some bytes → decodeFrame (bytes ++ extra) = i

/-- R174: which reason a frame's bytes give, in the rule's order, and what the end of a bad frame leaves: the held response is
FRAME_ERROR with the frame's first byte as SEQ and the reason byte, and nothing else changes. -/
def Obligations.BadFrameReported : Prop :=
  (∀ bytes : List Byte,
    (frameDefect bytes = some .length ↔ ∃ n : Byte, bytes[2]? = some n ∧ 32 < n.toNat) ∧
    (frameDefect bytes = some .short ↔ ∀ n : Byte, bytes[2]? = some n → n.toNat ≤ 32 ∧ bytes.length < 4 + n.toNat) ∧
    (frameDefect bytes = some .crc ↔ ∃ n c : Byte, bytes[2]? = some n ∧ n.toNat ≤ 32 ∧ bytes[3 + n.toNat]? = some c ∧
      c ≠ crc8 (bytes.take (3 + n.toNat)))) ∧
  ∀ (s : State) (p : PowerState) (seq : Byte) (rest : List Byte) (d : FrameDefect),
    s.steady p → p ≠ .loading → s.frameClean → frameDefect (seq :: rest) = some d →
    exec (.frameError (seq :: rest)) s =
      .next (s.holding ⟨seq, .frameError, [match d with
        | .crc => 0
        | .short => 1
        | .length => 2]⟩)

/-- R175: a good frame whose SEQ is the last-executed SEQ, whatever it carries and whatever the power state but LOADING, sets the held
response to the last-executed response and changes nothing else. -/
def Obligations.DuplicateReplayed : Prop :=
  ∀ (s : State) (p : PowerState) (seq code : Byte) (body : List Byte) (r : Response),
    s.steady p → p ≠ .loading → s.frameClean → s.hp.lastSeq = some seq → s.hp.lastResponse = some r →
    exec (.duplicate seq code body) s = .next (s.holding r) ∧
    (∀ i : Instr, requestFields i = some (seq, code, body) → exec i s = .next (s.holding r)) ∧
    (requestLength code ≠ some body.length → exec (.badRequest seq code body) s = .next (s.holding r))

/-- R173, tests 1 to 3: the end of a frame begun too soon and the end of an empty frame change nothing; a frame that met LOADING is
answered with STARTING under its first byte. In none is a request executed. -/
def Obligations.FramesNotJudged : Prop :=
  ∀ (s : State) (p : PowerState), s.steady p →
    (∀ (f : Frame) (i : Instr) (seq : Byte), s.hp.frame = some f → f.ignored = true → frameSeq i = some seq → wellFormed i = true →
      exec i s = .next s.frameOver) ∧
    (∀ f : Frame, s.hp.frame = some f → f.ignored = true → exec .ignoredFrame s = .next s.frameOver) ∧
    exec .emptyFrame s = .next s.frameOver ∧
    (∀ (i : Instr) (seq : Byte), (s.hp.frame.all fun f => !f.ignored) = true →
      p = .loading ∨ (s.hp.frame.any fun f => f.metLoading) = true → frameSeq i = some seq → wellFormed i = true →
      exec i s = .next (s.holding ⟨seq, .starting, []⟩))

/-- R170: at the fall of CSN a frame begins, and SDO carries the bytes of the held response as it stands and 0x00 after them, or 0x00
throughout a frame begun too soon; before it SDO carries nothing. Quantities of more bytes than one stand in a frame with the most
significant byte first. -/
def Obligations.CsnFallBeginsFrame : Prop :=
  (∀ (x : BitVec 16) (y : BitVec 24) (z : BitVec 32) (h : Handle),
    bytes16 x = [x.extractLsb' 8 8, x.extractLsb' 0 8] ∧
    bytes24 y = [y.extractLsb' 16 8, y.extractLsb' 8 8, y.extractLsb' 0 8] ∧
    bytes32 z = [z.extractLsb' 24 8, z.extractLsb' 16 8, z.extractLsb' 8 8, z.extractLsb' 0 8] ∧
    bytesHandle h = [BitVec.ofNat 8 h.slot.val, h.gen]) ∧
  ∀ (s : State) (p : PowerState) (soon : Bool), s.steady p → s.hp.frame = none →
    let status : Byte := match s.hp.held.status with
      | .done => 0x00
      | .accepted => 0x01
      | .badRequest => 0x10
      | .badField => 0x11
      | .badHandle => 0x12
      | .badKind => 0x13
      | .badState => 0x14
      | .tableFull => 0x15
      | .inUse => 0x16
      | .queueEmpty => 0x17
      | .busy => 0x18
      | .blocked => 0x19
      | .holding => 0x20
      | .notResumed => 0x21
      | .starting => 0x22
      | .frameError => 0x30
    let front := [s.hp.held.seq, status, BitVec.ofNat 8 s.hp.held.body.length] ++ s.hp.held.body
    let sdo := if soon then [] else front ++ [crc8 front]
    let t : State := { s with hp := { s.hp with frame := some ⟨soon, p == .loading, sdo⟩ } }
    exec (.csnFallingEdge soon) s = .next t ∧
    ∀ n : Nat, s.sdoByte n = none ∧ t.sdoByte n = some ((sdo[n]?).getD 0)

/-- R176 steps 1 and 2, R150: an accepted frame with an unknown CODE or a wrong LEN is refused with BAD_REQUEST, and a request that the
power state does not execute with NOT_RESUMED, HOLDING or BAD_STATE; the refusal is recorded by the port and changes nothing else. -/
def Obligations.RequestsRefusedBeforeOwner : Prop :=
  (∀ (s : State) (p : PowerState) (seq code : Byte) (body : List Byte), s.ready p seq → requestLength code ≠ some body.length →
    exec (.badRequest seq code body) s = .next (s.answering seq .badRequest [])) ∧
  ∀ (s : State) (i : Instr) (seq code : Byte) (body : List Byte), requestFields i = some (seq, code, body) →
    (s.ready .recovered seq → code ∉ [0x00#8, 0x01#8, 0x12#8, 0x13#8, 0x50#8, 0x51#8, 0x59#8, 0x5A#8] →
      exec i s = .next (s.answering seq .notResumed [])) ∧
    (s.ready .recovered seq → code = 0x59#8 → s.pr.pwarn = true → exec i s = .next (s.answering seq .holding [])) ∧
    (s.ready .run seq → code = 0x59#8 ∨ code = 0x5A#8 → exec i s = .next (s.answering seq .badState [])) ∧
    (s.ready .hold seq ∨ s.ready .parked seq → code ∉ [0x00#8, 0x01#8, 0x12#8, 0x13#8, 0x50#8] →
      exec i s = .next (s.answering seq .holding []))

/-- R184, R185: NOP and STATUS are executed in every power state but LOADING and change nothing outside the port. STATUS's body is the
model's reading of R180 and R185 (log 13), of 35 bytes: the power state, Now, the tick period, the five counts of records, the queue's
size, the safe state with its cause, the checkpoint in flight, the newest valid image, PWARN. -/
def Obligations.NopAndStatusAnswered : Prop :=
  ∀ (s : State) (p : PowerState) (seq : Byte), s.ready p seq →
    exec (.nop seq) s = .next (s.answering seq .done []) ∧
    ∃ body : List Byte, exec (.status seq) s = .next (s.answering seq .done body) ∧ body.length = 35 ∧
      body.take 6 = [match p with
        | .loading => (0 : Byte)
        | .recovered => 1
        | .run => 2
        | .hold => 3
        | .parked => 4] ++ bytes32 s.td.now ++ [match s.td.tickPeriod with
        | .us10 => (0 : Byte)
        | .us100 => 1
        | .ms1 => 2
        | .ms10 => 3] ∧
      (body.drop 6).take 10 =
        ([RecordState.idle, .running, .paused, .lapsed, .parked].flatMap fun st =>
          bytes16 (BitVec.ofNat 16 ((List.finRange 256).filter fun i => (s.recordAt i).any fun r => r.timing.state == st).length)) ∧
      (body.drop 16).take 2 = bytes16 (BitVec.ofNat 16 s.nq.entries.length) ∧
      (body.drop 18).take 3 = (match s.ou.safe with
        | some (.handle h) => 0 :: bytesHandle h
        | some .host => [1, 0, 0]
        | none => [2, 0, 0]) ∧
      (body.drop 21).take 6 = (match s.pr.checkpoint with
        | some c => [1, BitVec.ofNat 8 c.bank.val] ++ bytes32 c.generation
        | none => [0, 0, 0, 0, 0, 0]) ∧
      (s.pr.banks[(0 : Fin 2)] = none → s.pr.banks[(1 : Fin 2)] = none → (body.drop 27).take 7 = [0, 0, 0, 0, 0, 0, 0]) ∧
      (∀ (b c : Fin 2) (x : BankInfo), b ≠ c → s.pr.banks[b] = some x →
        (∀ y, s.pr.banks[c] = some y → y.generation < x.generation) →
        (body.drop 27).take 7 = [1, BitVec.ofNat 8 b.val] ++ bytes32 x.generation ++ [match x.origin with
          | .holdSave => (0 : Byte)
          | .checkpoint => 1]) ∧
      body.drop 34 = [if s.pr.pwarn then 0 else 1]

/-- R2, R3, R43, R117: a request whose handle names nothing is refused with BAD_HANDLE before any other test of its owner, for every
request that carries a handle; a ROUTE says which of its handles failed, and tests its source type first. -/
def Obligations.BadHandleRefused : Prop :=
  (∀ (s : State) (seq : Byte) (h : Handle) (m : ModifyBody) (x y : Byte) (i : Instr), s.ready .run seq → s.recordOf h = none →
    i ∈ [Instr.retire seq h, .query seq h, .modify seq h m, .start seq h, .stop seq h, .restart seq h, .pause seq h,
      .continueRecord seq h, .renew seq h, .join seq h x, .leave seq h, .bind seq h x y, .unbind seq h] →
    exec i s = .next (s.answering seq .badHandle [])) ∧
  (∀ (s : State) (p : PowerState) (seq : Byte) (h : Handle), s.ready p seq → s.recordOf h = none →
    exec (.query seq h) s = .next (s.answering seq .badHandle [])) ∧
  ∀ (s : State) (seq : Byte) (b : RouteBody), s.ready .run seq →
    (2 < b.sourceType.toNat → exec (.route seq b) s = .next (s.answering seq .badField [])) ∧
    ((b.sourceType = 1 ∨ b.sourceType = 2) → s.recordOf b.a = none →
      exec (.route seq b) s = .next (s.answering seq .badHandle [0])) ∧
    (b.sourceType = 2 → (s.recordOf b.a).isSome = true → s.recordOf b.b = none →
      exec (.route seq b) s = .next (s.answering seq .badHandle [1]))

/-! ### Records and handles -/

/-- R8 and R9: the refusals of DEFINE in their order, and the record a DEFINE that passes them places in the lowest-numbered FREE slot,
whose generation is incremented; and the numbers of R181 for the kinds, the consequences and the hold policies. -/
def Obligations.DefineDecided : Prop :=
  (Kind.code .oneshot = 0 ∧ Kind.code .cadence = 1 ∧ Kind.code .supervise = 2 ∧ Kind.code .window = 3 ∧
    Consequence.code .notify = 0 ∧ Consequence.code .safe = 1 ∧ Consequence.code .safeAndReset = 2 ∧
    HoldPolicy.code .stretch = 0 ∧ HoldPolicy.code .catchup = 1) ∧
  ∀ (s : State) (seq : Byte) (d : DefineBody), s.ready .run seq →
    let fields : Prop :=
      d.kind.toNat < 4 ∧ d.periodA ≠ 0 ∧ ((d.kind = 1 ∨ d.kind = 3) ↔ d.periodB ≠ 0) ∧ (d.repeatCount ≠ 0 → d.kind = 1) ∧
      d.priority.toNat < 8 ∧ d.notify.toNat < 4 ∧ (d.kind = 0 ∨ d.kind = 2 → d.notify = 0) ∧
      (d.kind = 3 → d.notify.getLsbD 1 = false) ∧ d.consequence.toNat < 3 ∧ d.holdPolicy.toNat < 2
    let kinds : Prop := d.consequence ≠ 0 → d.kind = 2 ∨ d.kind = 3
    (¬ fields → exec (.define seq d) s = .next (s.answering seq .badField [])) ∧
    (fields → ¬ kinds → exec (.define seq d) s = .next (s.answering seq .badKind [])) ∧
    (fields → kinds → (∀ i : Fin 256, (s.recordAt i).isSome = true) →
      exec (.define seq d) s = .next (s.answering seq .tableFull [])) ∧
    (fields → kinds → ∀ i : Fin 256, s.recordAt i = none → (∀ j : Fin 256, j < i → (s.recordAt j).isSome = true) →
      ∃ r : Record,
        exec (.define seq d) s = .next
          ({ s with slots := s.slots.set i ⟨s.slots[i].gen + 1, some r⟩ }.answering seq .done
            [BitVec.ofNat 8 i.val, s.slots[i].gen + 1]) ∧
        r.kind.code = d.kind ∧ r.timing = .idle ∧ r.periodA = d.periodA ∧ r.periodB = d.periodB ∧
        r.repeatCount = d.repeatCount ∧ r.cyclesLeft = none ∧ r.pending = ⟨none, none, none⟩ ∧
        r.priority.val = d.priority.toNat ∧ r.notify.phase = d.notify.getLsbD 0 ∧ r.notify.cycle = d.notify.getLsbD 1 ∧
        r.consequence.code = d.consequence ∧ r.holdPolicy.code = d.holdPolicy ∧ r.tag = d.tag ∧ r.trigger = none ∧
        r.group = none ∧ r.missCount = 0 ∧ r.signal = false)

/-- R10 and R11: RETIRE of a routed record is refused with IN_USE and the lowest-numbered output that names it; otherwise the slot
becomes FREE with its generation kept, the record's entry leaves the queue, and *discarded* says whether there was one. -/
def Obligations.RetireDecided : Prop :=
  (∀ (seq : Byte) (h : Handle), refusedOutsideRun (.retire seq h) seq) ∧
  ∀ (s : State) (seq : Byte) (h : Handle), s.ready .run seq →
    (s.recordOf h = none → exec (.retire seq h) s = .next (s.answering seq .badHandle [])) ∧
    (∀ (r : Record) (o : Fin 16), s.recordOf h = some r → h ∈ s.ou.routes[o].source.handles →
      (∀ o' : Fin 16, o' < o → h ∉ s.ou.routes[o'].source.handles) →
      exec (.retire seq h) s = .next (s.answering seq .inUse [BitVec.ofNat 8 o.val])) ∧
    (∀ r : Record, s.recordOf h = some r → (∀ o : Fin 16, h ∉ s.ou.routes[o].source.handles) →
      exec (.retire seq h) s = .next
        ({ s with
          slots := s.slots.set h.slot ⟨h.gen, none⟩
          nq := { s.nq with entries := s.nq.entries.filter fun e => e.handle? != some h } }.answering seq .done
            [if (s.nq.entries.any fun e => e.handle? == some h) = true then 1 else 0]))

/-- R12 and R182: the 48 bytes of QUERY's body at their offsets, in every power state but LOADING; QUERY changes nothing outside the
port. -/
def Obligations.QueryBody : Prop :=
  ∀ (s : State) (p : PowerState) (seq : Byte) (h : Handle) (r : Record), s.ready p seq → s.recordOf h = some r →
    ∃ (body : List Byte) (presence : BitVec 16), exec (.query seq h) s = .next (s.answering seq .done body) ∧ body.length = 48 ∧
      body.take 4 = bytesHandle h ++ [match r.kind with
        | .oneshot => (0 : Byte)
        | .cadence => 1
        | .supervise => 2
        | .window => 3, match r.timing with
        | .idle => (0 : Byte)
        | .active .running _ _ _ => 1
        | .paused _ _ _ => 2
        | .active .lapsed _ _ _ => 3
        | .parked _ _ _ => 4] ∧
      (body.drop 4).take 2 = bytes16 presence ∧
      (let timing := r.timing.state
       let timed := timing = .running ∨ timing = .lapsed
       let stopped := timing = .paused ∨ timing = .parked
       (presence.getLsbD 0 = true ↔ timing ≠ .idle) ∧ (presence.getLsbD 1 = true ↔ stopped) ∧
       (presence.getLsbD 2 = true ↔ r.kind = .cadence ∨ r.kind = .window) ∧ (presence.getLsbD 3 = true ↔ r.kind = .cadence) ∧
       presence.getLsbD 4 = r.cyclesLeft.isSome ∧ (presence.getLsbD 5 = true ↔ timed) ∧ (presence.getLsbD 6 = true ↔ timed) ∧
       (presence.getLsbD 7 = true ↔ timed ∨ stopped) ∧ presence.getLsbD 8 = r.pending.periodA.isSome ∧
       presence.getLsbD 9 = r.pending.periodB.isSome ∧ presence.getLsbD 10 = r.pending.repeatCount.isSome ∧
       presence.getLsbD 11 = r.trigger.isSome ∧ presence.getLsbD 12 = r.group.isSome ∧
       (presence.getLsbD 13 = true ↔ r.kind = .supervise ∨ r.kind = .window) ∧ presence.toNat < 2 ^ 14) ∧
      (let phaseNumber (phase : Phase) : Byte := match phase with
        | .a => 0
        | .b => 1
       match r.timing with
        | .idle => (body.drop 6).take 2 = [0, 0] ∧ (body.drop 18).take 11 = List.replicate 11 0
        | .active _ phase start due =>
          (body.drop 6).take 2 = [phaseNumber phase, 0] ∧
          (body.drop 18).take 11 = bytes32 start ++ bytes32 due ++ bytes24 ((due - s.td.now).setWidth 24)
        | .paused run phase remaining | .parked run phase remaining =>
          (body.drop 6).take 2 = [phaseNumber phase, if run = .running then 1 else 3] ∧
          (body.drop 18).take 11 = List.replicate 8 0 ++ bytes24 (remaining.setWidth 24)) ∧
      (body.drop 8).take 10 =
        bytes24 r.periodA ++ bytes24 r.periodB ++ bytes16 r.repeatCount ++ bytes16 (r.cyclesLeft.getD 0) ∧
      (body.drop 29).take 8 =
        bytes24 (r.pending.periodA.getD 0) ++ bytes24 (r.pending.periodB.getD 0) ++ bytes16 (r.pending.repeatCount.getD 0) ∧
      (body.drop 37).take 6 =
        [BitVec.ofNat 8 r.priority.val,
          (if r.notify.phase = true then 1 else 0) + (if r.notify.cycle = true then 2 else 0),
          match r.consequence with
            | .notify => 0
            | .safe => 1
            | .safeAndReset => 2,
          match r.holdPolicy with
            | .stretch => 0
            | .catchup => 1] ++ bytes16 r.tag ∧
      (body.drop 43).take 3 =
        (match r.trigger with
          | some t => [BitVec.ofNat 8 t.line.val, match t.action with
              | .start => 0
              | .renew => 1
              | .restart => 2]
          | none => [0, 0]) ++ [BitVec.ofNat 8 ((r.group.map (·.val)).getD 0)] ∧
      body.drop 46 = [r.missCount, if r.signal then 1 else 0]

/-- R13: the slots FIND collects and *next slot*, in every power state but LOADING; the byte order of its body is log 13. -/
def Obligations.FindScans : Prop :=
  ∀ (s : State) (p : PowerState) (seq : Byte) (tag start : BitVec 16), s.ready p seq →
    (256 < start.toNat → exec (.find seq tag start) s = .next (s.answering seq .badField [])) ∧
    (start.toNat ≤ 256 → ∃ (found : List (Fin 256)) (next : Nat),
      exec (.find seq tag start) s = .next (s.answering seq .done
        ([BitVec.ofNat 8 found.length] ++ (found.flatMap fun i => [BitVec.ofNat 8 i.val, s.slots[i].gen]) ++
          bytes16 (BitVec.ofNat 16 next))) ∧
      found.Pairwise (· < ·) ∧ found.length ≤ 8 ∧
      (∀ i : Fin 256, i ∈ found ↔ start.toNat ≤ i.val ∧ i.val < next ∧ ((s.recordAt i).any fun r => r.tag == tag) = true) ∧
      (found.length < 8 → next = 256) ∧ (found.length = 8 → ∃ i : Fin 256, found.getLast? = some i ∧ next = i.val + 1))

/-- R15 to R17: MODIFY's refusals with BAD_FIELD and BAD_KIND in their order, and by the power state outside RUN (BAD_HANDLE stands in
BadHandleRefused and BAD_STATE in ModifyImmediate); and a MODIFY that passes them writes the given items that are not timing values
at once, in any state of the record, and with mode AT_BOUNDARY stages the given timing values in the pending update, each replacing a
pending value of its field; State, Due and every other field are kept. -/
def Obligations.ModifyStages : Prop :=
  (∀ (seq : Byte) (h : Handle) (m : ModifyBody), refusedOutsideRun (.modify seq h m) seq) ∧
  ∀ (s : State) (seq : Byte) (h : Handle) (m : ModifyBody) (r : Record), s.ready .run seq → s.recordOf h = some r →
    (¬ modifyFields m r.kind → exec (.modify seq h m) s = .next (s.answering seq .badField [])) ∧
    (modifyFields m r.kind → ¬ modifyKinds m r.kind → exec (.modify seq h m) s = .next (s.answering seq .badKind [])) ∧
    (modifyFields m r.kind → modifyKinds m r.kind → (modifyTimed m → m.mode = 0) → ∃ r' : Record,
      exec (.modify seq h m) s = .next ((s.putRecord h.slot r').answering seq .done [0]) ∧ itemsWritten m r r' ∧
      r'.pending.periodA = (if m.presence.getLsbD 6 = true then some m.periodA else r.pending.periodA) ∧
      r'.pending.periodB = (if m.presence.getLsbD 7 = true then some m.periodB else r.pending.periodB) ∧
      r'.pending.repeatCount = (if m.presence.getLsbD 8 = true then some m.repeatCount else r.pending.repeatCount) ∧
      r'.periodA = r.periodA ∧ r'.periodB = r.periodB ∧ r'.repeatCount = r.repeatCount ∧ r'.cyclesLeft = r.cyclesLeft)

/-- R19 to R22, on a MODIFY that passes the tests and gives timing values with mode IMMEDIATE: refused on a PAUSED record; otherwise the
other items and the given timing values are written, each timing value removed from the pending update, and a Repeat count sets the
Cycles left of a timing record. A new period of the current phase then moves Due when it is greater than the elapsed part, and
otherwise the record's expiry is taken at once at Now. -/
def Obligations.ModifyImmediate : Prop :=
  ∀ (s : State) (seq : Byte) (h : Handle) (m : ModifyBody) (r : Record), s.ready .run seq → s.recordOf h = some r →
    modifyFields m r.kind → modifyKinds m r.kind → modifyTimed m → m.mode = 1 →
    (∀ (run : Run) (phase : Phase) (remaining : Time), r.timing = .paused run phase remaining →
      exec (.modify seq h m) s = .next (s.answering seq .badState [])) ∧
    ∃ r' : Record, itemsWritten m r r' ∧
      r'.periodA = (if m.presence.getLsbD 6 = true then m.periodA else r.periodA) ∧
      r'.periodB = (if m.presence.getLsbD 7 = true then m.periodB else r.periodB) ∧
      r'.repeatCount = (if m.presence.getLsbD 8 = true then m.repeatCount else r.repeatCount) ∧
      r'.pending.periodA = (if m.presence.getLsbD 6 = true then none else r.pending.periodA) ∧
      r'.pending.periodB = (if m.presence.getLsbD 7 = true then none else r.pending.periodB) ∧
      r'.pending.repeatCount = (if m.presence.getLsbD 8 = true then none else r.pending.repeatCount) ∧
      (r.timing = .idle → r'.cyclesLeft = r.cyclesLeft ∧
        exec (.modify seq h m) s = .next ((s.putRecord h.slot r').answering seq .done [0])) ∧
      (∀ (run : Run) (phase : Phase) (start due : Time), r.timing = .active run phase start due →
        let newPeriod : Option Period := match phase with
          | .a => if m.presence.getLsbD 6 = true then some m.periodA else none
          | .b => if m.presence.getLsbD 7 = true then some m.periodB else none
        r'.cyclesLeft = (if m.presence.getLsbD 8 = true then (if m.repeatCount = 0 then none else some m.repeatCount)
          else r.cyclesLeft) ∧
        (newPeriod = none → exec (.modify seq h m) s = .next ((s.putRecord h.slot r').answering seq .done [0])) ∧
        (∀ p : Period, newPeriod = some p → s.td.now - start < ticks p → exec (.modify seq h m) s = .next
          ((s.putRecord h.slot { r' with timing := .active run phase start (start + ticks p) }).answering seq .done [0])) ∧
        (∀ p : Period, newPeriod = some p → ticks p ≤ s.td.now - start → exec (.modify seq h m) s = .next
          (((s.putRecord h.slot r').expire h.slot s.td.now).answering seq .done [1])))

/-! ### Time and the due order -/

/-- R28: SET_TICK refuses a value that is no tick period, and refuses with the handle of the lowest-numbered slot whose record is not
IDLE; otherwise it sets the tick period and restarts the divider. -/
def Obligations.SetTickDecided : Prop :=
  ∀ (s : State) (seq x : Byte), s.ready .run seq →
    (3 < x.toNat → exec (.setTick seq x) s = .next (s.answering seq .badField [])) ∧
    (x.toNat ≤ 3 → ∀ (i : Fin 256) (r : Record), s.recordAt i = some r → r.timing ≠ .idle →
      (∀ (j : Fin 256) (r' : Record), j < i → s.recordAt j = some r' → r'.timing = .idle) →
      exec (.setTick seq x) s = .next (s.answering seq .badState [BitVec.ofNat 8 i.val, s.slots[i].gen])) ∧
    (∀ tp : TickPeriod, tp.code = x → (∀ (j : Fin 256) (r : Record), s.recordAt j = some r → r.timing = .idle) →
      exec (.setTick seq x) s =
        .next ({ s with td := { s.td with tickPeriod := tp, divider := 0 } }.answering seq .done [])) ∧
    TickPeriod.code .us10 = 0 ∧ TickPeriod.code .us100 = 1 ∧ TickPeriod.code .ms1 = 2 ∧ TickPeriod.code .ms10 = 3 ∧
    refusedOutsideRun (.setTick seq x) seq

/-- R27, R29, R32: a tick adds one to Now in RUN and to the hold counter in HOLD and PARKED, which stays at 1,073,741,823; it restarts
the divider's count, and in LOADING there is none. That TICK in RUN advances Now alone is the model's reading (log 8): R39 takes the
expiries at the new Now as part of that advance, and here EXPIRY or the next other command takes them. -/
def Obligations.TickCounts : Prop :=
  ∀ (s : State) (p : PowerState), s.steady p → exec .tick s = .next (match p with
    | .run => { s with td := { s.td with now := s.td.now + 1, divider := 0 } }
    | .hold | .parked =>
      { s with td := { s.td with
          holdCounter := if s.td.holdCounter < 1073741823 then s.td.holdCounter + 1 else s.td.holdCounter, divider := 0 } }
    | .recovered => { s with td := { s.td with divider := 0 } }
    | .loading => s)

/-- R53: the expiry of a RUNNING ONESHOT record at `n` posts COMPLETE at the due that came and leaves the record IDLE; the pending update
is not taken. (Cycles left is absent from a ONESHOT record before and after.) EXPIRY takes it at Now of the record that is first. -/
def Obligations.OneshotExpiry : Prop :=
  ∀ (s : State) (i : Fin 256) (r : Record) (run : Run) (phase : Phase) (start due : Time), s.recordAt i = some r →
    r.timing = .active run phase start due → r.kind = .oneshot →
    let expired (n : Time) : State := (s.post i r .complete n).putRecord i { r with timing := .idle, cyclesLeft := none }
    (∀ n : Time, s.expire i n = expired n) ∧ (s.firstDue i → exec .expiry s = .next (expired s.td.now))

/-- R55 and R72: the expiry at `n` in phase A of a RUNNING CADENCE record or of a RUNNING or LAPSED WINDOW record begins phase B at the
due that came, with State kept, and posts PHASE when the Notify set holds it; nothing else changes. EXPIRY takes it at Now of the record
that is first. -/
def Obligations.PhaseAExpiry : Prop :=
  ∀ (s : State) (i : Fin 256) (r : Record) (run : Run) (start due : Time), s.recordAt i = some r →
    r.timing = .active run .a start due → (r.kind = .cadence ∧ run = .running) ∨ r.kind = .window →
    let expired (n : Time) : State :=
      (if r.notify.phase = true then s.post i r .phase n else s).putRecord i
        { r with timing := .active run .b n (n + ticks r.periodB) }
    (∀ n : Time, s.expire i n = expired n) ∧ (s.firstDue i → exec .expiry s = .next (expired s.td.now))

/-- R56, R57 and R58: the expiry at `n` of a RUNNING CADENCE record in phase B posts CYCLE when notified, counts Cycles left down, and
either completes with COMPLETE or takes the pending update, sets Cycles left from a Repeat count it held, and begins phase A. EXPIRY
takes it at Now of the record that is first. -/
def Obligations.CadenceCycleEnd : Prop :=
  ∀ (s : State) (i : Fin 256) (r : Record) (start due : Time), s.recordAt i = some r → r.kind = .cadence →
    r.timing = .active .running .b start due →
    let posted (n : Time) : State := if r.notify.cycle = true then s.post i r .cycle n else s
    let next (left : Option (BitVec 16)) (n : Time) : Record :=
      { r with
        periodA := r.pending.periodA.getD r.periodA
        periodB := r.pending.periodB.getD r.periodB
        repeatCount := r.pending.repeatCount.getD r.repeatCount
        pending := ⟨none, none, none⟩
        timing := .active .running .a n (n + ticks (r.pending.periodA.getD r.periodA))
        cyclesLeft := match r.pending.repeatCount with
          | none => left
          | some v => if v = 0 then none else some v }
    let expired (n : Time) : State := match r.cyclesLeft with
      | none => (posted n).putRecord i (next none n)
      | some k =>
        if k = 1 then ((posted n).post i r .complete n).putRecord i { r with timing := .idle, cyclesLeft := none }
        else (posted n).putRecord i (next (some (k - 1)) n)
    (∀ n : Time, s.expire i n = expired n) ∧ (s.firstDue i → exec .expiry s = .next (expired s.td.now))

/-- R68, R69 and R76: the expiry at `n` of a SUPERVISE record, or of a WINDOW record in phase B, RUNNING or LAPSED, is a miss: MISS is
posted, the Consequence is applied, the Miss count grows up to 255, and the record, which takes its pending update, is LAPSED in a
phase A that begins at the due that came. EXPIRY takes it at Now of the record that is first. -/
def Obligations.SupervisionMiss : Prop :=
  ∀ (s : State) (i : Fin 256) (r : Record) (run : Run) (phase : Phase) (start due : Time), s.recordAt i = some r →
    r.timing = .active run phase start due → r.kind = .supervise ∨ (r.kind = .window ∧ phase = .b) →
    let expired (n : Time) : State :=
      ((s.post i r .miss n).applyConsequence ⟨i, s.slots[i].gen⟩ r.consequence n).putRecord i
        { r with
          missCount := if r.missCount = 255 then 255 else r.missCount + 1
          periodA := r.pending.periodA.getD r.periodA
          periodB := r.pending.periodB.getD r.periodB
          repeatCount := r.pending.repeatCount.getD r.repeatCount
          pending := ⟨none, none, none⟩
          timing := .active .lapsed .a n (n + ticks (r.pending.periodA.getD r.periodA)) }
    (∀ n : Time, s.expire i n = expired n) ∧ (s.firstDue i → exec .expiry s = .next (expired s.td.now))

/-- R82, R83 and R84: NOTIFY does nothing; SAFE sets a clear safe state with the record as its cause and posts SAFE_ENTERED, and leaves a
set one alone; SAFE_AND_RESET does so and then begins a pulse unless one is in progress and posts RESET_ISSUED. -/
def Obligations.ConsequenceApplied : Prop :=
  ∀ (s : State) (h : Handle) (t : Time),
    let entered : State :=
      { s with ou := { s.ou with safe := some (.handle h) },
               nq := { s.nq with entries := postSystemEntry s.nq.entries (.safeEntered (.handle h)) t } }
    let reset (u : State) : State :=
      { u with ou := { u.ou with hrst := some (u.ou.hrst.getD 0) },
               nq := { u.nq with entries := postSystemEntry u.nq.entries (.resetIssued h) t } }
    s.applyConsequence h .notify t = s ∧
    (s.ou.safe = none → s.applyConsequence h .safe t = entered ∧ s.applyConsequence h .safeAndReset t = reset entered) ∧
    (s.ou.safe ≠ none → s.applyConsequence h .safe t = s ∧ s.applyConsequence h .safeAndReset t = reset s)

/-- R39: the expiries of the records whose Due is Now are taken by Priority from the highest and then by slot from the lowest; when they
have been taken no record in the due order has distance 0, Now, the power state and the port are as they were, and every other record is
untouched. That they are taken by State.settle before the next other command is the model's reading (log 8): what every command but
EXPIRY, POWER_ON and STORE_CONTENTS_LOST does at a powered part, it does to the part so settled. The periods are at least 1, as
RecordsKept keeps them. -/
def Obligations.OutstandingExpiriesTaken : Prop :=
  ∀ s : State, s.recordsWf →
    (s.pr.power = .run →
      (∀ i : Fin 256, i ∈ s.dueNow ↔ s.dueAt i = some s.td.now) ∧
      s.dueNow.Pairwise (fun i j => s.priorityAt j < s.priorityAt i ∨ (s.priorityAt j = s.priorityAt i ∧ i < j)) ∧
      s.settle = s.dueNow.foldl (fun u i => u.expire i s.td.now) s ∧
      (∀ i : Fin 256, s.settle.dueAt i ≠ some s.td.now) ∧ s.settle.td = s.td ∧
      s.settle.pr = s.pr ∧ s.settle.hp = s.hp ∧ s.settle.lu = s.lu ∧ s.settle.supply = s.supply ∧
      s.settle.ou.routes = s.ou.routes ∧ s.settle.nq.threshold = s.nq.threshold ∧
      ∀ i : Fin 256, s.dueAt i ≠ some s.td.now → s.settle.slots[i] = s.slots[i]) ∧
    ∀ c : Instr, s.supply = true → c ≠ .expiry → (∀ x y : Bool, c ≠ .powerOn x y) → c ≠ .storeContentsLost →
      exec c s = exec c s.settle

/-- R34 and R35: the due order holds each RUNNING or LAPSED record once and no other, sorted by the smaller distance of Due from Now,
then the higher Priority, then the lower slot. -/
def Obligations.DueOrderSorted : Prop :=
  ∀ s : State,
    (∀ i : Fin 256, i ∈ s.dueOrder ↔
      ∃ (r : Record) (run : Run) (phase : Phase) (start due : Time), s.recordAt i = some r ∧ r.timing = .active run phase start due) ∧
    s.dueOrder.Nodup ∧
    s.dueOrder.Pairwise fun i j => ∀ di dj : Time, s.dueAt i = some di → s.dueAt j = some dj →
      di - s.td.now < dj - s.td.now ∨
      (di - s.td.now = dj - s.td.now ∧
        (s.priorityAt j < s.priorityAt i ∨ (s.priorityAt j = s.priorityAt i ∧ i < j)))

/-! ### START, STOP, RESTART, PAUSE, CONTINUE -/

/-- R44 and R45: START of an IDLE record takes the pending update and enters phase A at Now, with a CADENCE record's Cycles left counted
from the Repeat count in force; in any other state it is refused with BAD_STATE. -/
def Obligations.StartDecided : Prop :=
  (∀ (seq : Byte) (h : Handle), refusedOutsideRun (.start seq h) seq) ∧
  ∀ (s : State) (seq : Byte) (h : Handle) (r : Record), s.ready .run seq → s.recordOf h = some r →
    let periodA := r.pending.periodA.getD r.periodA
    let repeats := r.pending.repeatCount.getD r.repeatCount
    let begun : Record :=
      { r with
        periodA := periodA
        periodB := r.pending.periodB.getD r.periodB
        repeatCount := repeats
        pending := ⟨none, none, none⟩
        timing := .active .running .a s.td.now (s.td.now + ticks periodA)
        cyclesLeft := if r.kind = .cadence ∧ repeats ≠ 0 then some repeats else none }
    (r.timing = .idle →
      exec (.start seq h) s =
        .next ((s.putRecord h.slot begun).answering seq .done (bytes32 (s.td.now + ticks periodA)))) ∧
    (r.timing ≠ .idle → exec (.start seq h) s = .next (s.answering seq .badState []))

/-- R46: STOP of a RUNNING, LAPSED or PAUSED record takes the pending update and leaves it IDLE; of an IDLE record it changes nothing.
The response carries the state the record left, in QUERY's numbers (log 13). -/
def Obligations.StopDecided : Prop :=
  ∀ (s : State) (seq : Byte) (h : Handle) (r : Record), s.ready .run seq → s.recordOf h = some r →
    let ended : Record :=
      { r with
        periodA := r.pending.periodA.getD r.periodA
        periodB := r.pending.periodB.getD r.periodB
        repeatCount := r.pending.repeatCount.getD r.repeatCount
        pending := ⟨none, none, none⟩
        timing := .idle
        cyclesLeft := none }
    (r.timing = .idle → exec (.stop seq h) s = .next (s.answering seq .done [0])) ∧
    (r.timing.state = .running → exec (.stop seq h) s = .next ((s.putRecord h.slot ended).answering seq .done [1])) ∧
    (r.timing.state = .paused → exec (.stop seq h) s = .next ((s.putRecord h.slot ended).answering seq .done [2])) ∧
    (r.timing.state = .lapsed → exec (.stop seq h) s = .next ((s.putRecord h.slot ended).answering seq .done [3]))

/-- R48 and R49: RESTART of an IDLE, RUNNING or LAPSED record begins a new run in phase A at Now, posts nothing and keeps the Miss count;
of a PAUSED record it is refused with BAD_STATE. -/
def Obligations.RestartDecided : Prop :=
  ∀ (s : State) (seq : Byte) (h : Handle) (r : Record), s.ready .run seq → s.recordOf h = some r →
    let periodA := r.pending.periodA.getD r.periodA
    let repeats := r.pending.repeatCount.getD r.repeatCount
    let begun : Record :=
      { r with
        periodA := periodA
        periodB := r.pending.periodB.getD r.periodB
        repeatCount := repeats
        pending := ⟨none, none, none⟩
        timing := .active .running .a s.td.now (s.td.now + ticks periodA)
        cyclesLeft := if r.kind = .cadence ∧ repeats ≠ 0 then some repeats else none }
    (r.timing.state = .idle ∨ r.timing.state = .running ∨ r.timing.state = .lapsed →
      exec (.restart seq h) s =
        .next ((s.putRecord h.slot begun).answering seq .done (bytes32 (s.td.now + ticks periodA)))) ∧
    (r.timing.state = .paused → exec (.restart seq h) s = .next (s.answering seq .badState []))

/-- R50 and R51: PAUSE of a RUNNING or LAPSED record sets Remaining to Due − Now and keeps the phase; CONTINUE of a PAUSED record sets Due
to Now + Remaining and Phase start to that less the phase's period, and returns it to its Resume state. In any other state each is
refused with BAD_STATE. -/
def Obligations.PauseAndContinueDecided : Prop :=
  ∀ (s : State) (seq : Byte) (h : Handle) (r : Record), s.ready .run seq → s.recordOf h = some r →
    (∀ (run : Run) (phase : Phase) (start due : Time), r.timing = .active run phase start due →
      exec (.pause seq h) s =
        .next ((s.putRecord h.slot { r with timing := .paused run phase (due - s.td.now) }).answering seq .done
          (bytes24 ((due - s.td.now).setWidth 24)))) ∧
    (r.timing.state = .idle ∨ r.timing.state = .paused → exec (.pause seq h) s = .next (s.answering seq .badState [])) ∧
    (∀ (run : Run) (phase : Phase) (remaining : Time), r.timing = .paused run phase remaining →
      let due := s.td.now + remaining
      let period := match phase with
        | .a => r.periodA
        | .b => r.periodB
      exec (.continueRecord seq h) s =
        .next ((s.putRecord h.slot { r with timing := .active run phase (due - ticks period) due }).answering seq .done
          (bytes32 due))) ∧
    (r.timing.state = .idle ∨ r.timing.state = .running ∨ r.timing.state = .lapsed →
      exec (.continueRecord seq h) s = .next (s.answering seq .badState []))

/-! ### Renewals -/

/-- R67, R70, R73, R74 and R75: a renewal of a SUPERVISE record, or of a WINDOW record in phase B, is good and begins phase A at Now,
posting RECOVERED when it brings back a LAPSED record; a renewal of a WINDOW record in phase A is early, posts EARLY, applies the
Consequence and leaves the record LAPSED with phase A begun again. -/
def Obligations.RenewJudged : Prop :=
  ∀ (s : State) (seq : Byte) (h : Handle) (r : Record) (run : Run) (phase : Phase) (start due : Time),
    s.ready .run seq → s.recordOf h = some r → r.timing = .active run phase start due →
    let periodA := r.pending.periodA.getD r.periodA
    let newDue := s.td.now + ticks periodA
    let miss : BitVec 8 := if r.missCount = 255 then 255 else r.missCount + 1
    let renewed (run' : Run) (count : BitVec 8) : Record :=
      { r with
        missCount := count
        periodA := periodA
        periodB := r.pending.periodB.getD r.periodB
        repeatCount := r.pending.repeatCount.getD r.repeatCount
        pending := ⟨none, none, none⟩
        timing := .active run' .a s.td.now newDue }
    (r.kind = .supervise ∨ (r.kind = .window ∧ phase = .b) →
      (run = .running → exec (.renew seq h) s =
        .next ((s.putRecord h.slot (renewed .running r.missCount)).answering seq .done
          ([0] ++ bytes32 newDue ++ [r.missCount]))) ∧
      (run = .lapsed → exec (.renew seq h) s =
        .next (((s.post h.slot r .recovered s.td.now).putRecord h.slot (renewed .running r.missCount)).answering seq .done
          ([1] ++ bytes32 newDue ++ [r.missCount])))) ∧
    (r.kind = .window → phase = .a → exec (.renew seq h) s =
      .next ((((s.post h.slot r .early s.td.now).applyConsequence h r.consequence s.td.now).putRecord h.slot
        (renewed .lapsed miss)).answering seq .done ([2] ++ bytes32 newDue ++ [miss])))

/-- R65: RENEW is refused with BAD_HANDLE, with BAD_KIND for an ONESHOT or CADENCE record in any state, and with BAD_STATE for an IDLE or
PAUSED one, and outside RUN by the power state. -/
def Obligations.RenewRefused : Prop :=
  (∀ (seq : Byte) (h : Handle), refusedOutsideRun (.renew seq h) seq) ∧
  ∀ (s : State) (seq : Byte) (h : Handle), s.ready .run seq →
    (s.recordOf h = none → exec (.renew seq h) s = .next (s.answering seq .badHandle [])) ∧
    ∀ r : Record, s.recordOf h = some r →
      (r.kind = .oneshot ∨ r.kind = .cadence → exec (.renew seq h) s = .next (s.answering seq .badKind [])) ∧
      (r.kind = .supervise ∨ r.kind = .window → r.timing.state = .idle ∨ r.timing.state = .paused →
        exec (.renew seq h) s = .next (s.answering seq .badState []))

/-! ### Groups -/

/-- R89 and R90: JOIN sets the record's Group and LEAVE removes it; each reports the one before, and nothing else changes. -/
def Obligations.JoinAndLeaveDecided : Prop :=
  (∀ (seq : Byte) (h : Handle) (x : Byte), refusedOutsideRun (.join seq h x) seq ∧ refusedOutsideRun (.leave seq h) seq) ∧
  ∀ (s : State) (seq x : Byte) (h : Handle), s.ready .run seq →
    (s.recordOf h = none → exec (.join seq h x) s = .next (s.answering seq .badHandle []) ∧
      exec (.leave seq h) s = .next (s.answering seq .badHandle [])) ∧
    ∀ r : Record, s.recordOf h = some r →
      let before : List Byte := match r.group with
        | none => [0, 0]
        | some g => [1, BitVec.ofNat 8 g.val]
      (16 ≤ x.toNat → exec (.join seq h x) s = .next (s.answering seq .badField [])) ∧
      (∀ g : Fin 16, g.val = x.toNat →
        exec (.join seq h x) s = .next ((s.putRecord h.slot { r with group := some g }).answering seq .done before)) ∧
      exec (.leave seq h) s = .next ((s.putRecord h.slot { r with group := none }).answering seq .done before)

/-- R92 to R96: a group request leaves each member as the single-record request, executed in the same state, would leave it, and every
other record alone; it counts the members and those in a state on which it acts. -/
def Obligations.GroupRequestsActOnMembers : Prop :=
  (∀ seq x o : Byte, refusedOutsideRun (.groupStart seq x o) seq ∧ refusedOutsideRun (.groupStop seq x) seq ∧
    refusedOutsideRun (.groupPause seq x) seq ∧ refusedOutsideRun (.groupContinue seq x) seq) ∧
  ∀ (s : State) (seq x : Byte), s.ready .run seq →
    (∀ o : Byte, 16 ≤ x.toNat ∨ 2 ≤ o.toNat → exec (.groupStart seq x o) s = .next (s.answering seq .badField [])) ∧
    (16 ≤ x.toNat → exec (.groupStop seq x) s = .next (s.answering seq .badField []) ∧
      exec (.groupPause seq x) s = .next (s.answering seq .badField []) ∧
      exec (.groupContinue seq x) s = .next (s.answering seq .badField [])) ∧
    ∀ (g : Fin 16) (c : Instr) (single : Handle → Instr) (states : List RecordState), g.val = x.toNat →
      (c, single, states) ∈
        [(Instr.groupStart seq x 0, Instr.start seq, [RecordState.idle]),
         (Instr.groupStart seq x 1, Instr.restart seq, [RecordState.idle, .running, .lapsed]),
         (Instr.groupStop seq x, Instr.stop seq, [RecordState.running, .lapsed, .paused]),
         (Instr.groupPause seq x, Instr.pause seq, [RecordState.running, .lapsed]),
         (Instr.groupContinue seq x, Instr.continueRecord seq, [RecordState.paused])] →
      let member (i : Fin 256) : Bool := (s.recordAt i).any fun r => r.group == some g
      let affected (i : Fin 256) : Bool := (s.recordAt i).any fun r => r.group == some g && states.contains r.timing.state
      ∃ slots : Vector Slot 256,
        exec c s = .next ({ s with slots := slots }.answering seq .done
          (bytes16 (BitVec.ofNat 16 ((List.finRange 256).filter member).length) ++
           bytes16 (BitVec.ofNat 16 ((List.finRange 256).filter affected).length))) ∧
        ∀ i : Fin 256,
          (member i = false → slots[i] = s.slots[i]) ∧
          (member i = true → ∃ u : State, exec (single ⟨i, s.slots[i].gen⟩) s = .next u ∧ slots[i] = u.slots[i])

/-! ### Input lines -/

/-- R100: a sample that equals the filtered level removes the candidate; one that differs creates a candidate at this REFCLK cycle when
there is none, keeps one that is present, and with filter width 0 is accepted at once as a candidate of that level is (log 10). In
LOADING the filter does not run. -/
def Obligations.SampledLevelFiltered : Prop :=
  ∀ (s : State) (p : PowerState) (l : Fin 8) (level : Bool), s.steady p →
    let line := s.lu.lines[l]
    let withCandidate (c : Option Candidate) : State :=
      { s with lu := { s.lu with lines := s.lu.lines.set l { line with candidate := c } } }
    (p = .loading → exec (.sampledLevelChange l level) s = .next s) ∧
    (p ≠ .loading → level = line.level → exec (.sampledLevelChange l level) s = .next (withCandidate none)) ∧
    (p ≠ .loading → level ≠ line.level → line.config.filterWidth ≠ 0 → line.candidate = none →
      exec (.sampledLevelChange l level) s = .next (withCandidate (some ⟨level, s.refclk⟩))) ∧
    (p ≠ .loading → level ≠ line.level → line.config.filterWidth ≠ 0 → line.candidate ≠ none →
      exec (.sampledLevelChange l level) s = .next s) ∧
    (p ≠ .loading → level ≠ line.level → line.config.filterWidth = 0 →
      exec (.sampledLevelChange l level) s =
        exec (.candidateAccepted l) (withCandidate (some ⟨level, s.refclk⟩)))

/-- R100, R101, R108 to R111 and R113: an accepted candidate becomes the filtered level; when the edge select admits the change it is an
edge, which outside RUN adds its line to the ignored-edge set, and in RUN leaves each bound record as the request of its action,
executed in the same state, would, and every other record alone; with one bound record the whole effect is that request's, but for
the port, and with more, their periods at least 1, it is that of the requests one after another in ascending slot order, the queue, the
safe state with its cause and the HRST pulse among it. -/
def Obligations.CandidateAccepted : Prop :=
  ∀ (s : State) (p : PowerState) (l : Fin 8) (c : Candidate), s.steady p → p ≠ .loading → s.lu.lines[l].candidate = some c →
    let line := s.lu.lines[l]
    let lu : LineUnit := { s.lu with lines := s.lu.lines.set l { line with level := c.level, candidate := none } }
    let admitted : Prop :=
      (line.config.edgeSelect = .rise ∧ c.level = true) ∨ (line.config.edgeSelect = .fall ∧ c.level = false) ∨
        line.config.edgeSelect = .both
    let bound (i : Fin 256) (a : Action) : Prop := ∃ r : Record, s.recordAt i = some r ∧ r.trigger = some ⟨l, a⟩
    let fresh : State := { s with hp := ⟨none, none, s.hp.held, none⟩ }
    let single (i : Fin 256) (a : Action) : Instr := match a with
      | .start => .start 0 ⟨i, s.slots[i].gen⟩
      | .renew => .renew 0 ⟨i, s.slots[i].gen⟩
      | .restart => .restart 0 ⟨i, s.slots[i].gen⟩
    (¬ admitted → exec (.candidateAccepted l) s = .next { s with lu := lu }) ∧
    (admitted → p ≠ .run →
      exec (.candidateAccepted l) s = .next { s with lu := { lu with ignored := s.lu.ignored ||| (1#8 <<< l.val) } }) ∧
    (admitted → p = .run → ∃ t : State, exec (.candidateAccepted l) s = .next t ∧ t.lu = lu ∧ t.td = s.td ∧ t.pr = s.pr ∧
      t.hp = s.hp ∧ t.ou.routes = s.ou.routes ∧
      (∀ i : Fin 256, (∀ a : Action, ¬ bound i a) → t.slots[i] = s.slots[i]) ∧
      (∀ (i : Fin 256) (a : Action), bound i a → ∃ u : State, exec (single i a) fresh = .next u ∧ t.slots[i] = u.slots[i]) ∧
      ((∀ (i : Fin 256) (a : Action), ¬ bound i a) → t = { s with lu := lu }) ∧
      (∀ (i : Fin 256) (a : Action), bound i a → (∀ (j : Fin 256) (b : Action), bound j b → j = i) →
        ∃ u : State, exec (single i a) fresh = .next u ∧ t = { u with lu := lu, hp := s.hp }) ∧
      (s.recordsWf → ∃ (order : List (Fin 256)) (visit : Nat → State),
        order.Pairwise (· < ·) ∧ (∀ i : Fin 256, i ∈ order ↔ ∃ a : Action, bound i a) ∧ visit 0 = s ∧
        (∀ (k : Nat) (i : Fin 256) (a : Action), order[k]? = some i → bound i a →
          exec (single i a) { visit k with hp := ⟨none, none, s.hp.held, none⟩ } = .next (visit (k + 1))) ∧
        t = { visit order.length with lu := lu, hp := s.hp }))

/-- R102: SET_LINE sets a line's edge select and filter width, restarts a candidate in progress at this REFCLK cycle, and reports the
filtered level and whether a candidate is present. -/
def Obligations.SetLineDecided : Prop :=
  (∀ seq x y z : Byte, refusedOutsideRun (.setLine seq x y z) seq) ∧
  ∀ (s : State) (seq x y z : Byte), s.ready .run seq →
    (8 ≤ x.toNat ∨ 4 ≤ y.toNat ∨ 16 ≤ z.toNat → exec (.setLine seq x y z) s = .next (s.answering seq .badField [])) ∧
    ∀ (l : Fin 8) (e : EdgeSelect) (w : Fin 16), l.val = x.toNat → w.val = z.toNat →
      y = (match e with
        | .none => 0
        | .rise => 1
        | .fall => 2
        | .both => 3) →
      let line := s.lu.lines[l]
      let new : Line := { line with config := ⟨e, w⟩, candidate := line.candidate.map fun c => ⟨c.level, s.refclk⟩ }
      exec (.setLine seq x y z) s = .next
        ({ s with lu := { s.lu with lines := s.lu.lines.set l new } }.answering seq .done
          [if line.level = true then 1 else 0, if line.candidate.isSome = true then 1 else 0])

/-- R105 and R106: BIND sets the record's Trigger and UNBIND removes it; each reports the one before, and nothing else changes; RENEW is
not bound to an ONESHOT or CADENCE record. -/
def Obligations.BindAndUnbindDecided : Prop :=
  (∀ (seq x y : Byte) (h : Handle), refusedOutsideRun (.bind seq h x y) seq ∧ refusedOutsideRun (.unbind seq h) seq) ∧
  ∀ (s : State) (seq x y : Byte) (h : Handle), s.ready .run seq →
    (s.recordOf h = none → exec (.bind seq h x y) s = .next (s.answering seq .badHandle []) ∧
      exec (.unbind seq h) s = .next (s.answering seq .badHandle [])) ∧
    ∀ r : Record, s.recordOf h = some r →
      let number (a : Action) : Byte := match a with
        | .start => 0
        | .renew => 1
        | .restart => 2
      let before : List Byte := match r.trigger with
        | none => [0, 0, 0]
        | some t => [1, BitVec.ofNat 8 t.line.val, number t.action]
      (8 ≤ x.toNat ∨ 3 ≤ y.toNat → exec (.bind seq h x y) s = .next (s.answering seq .badField [])) ∧
      (∀ (l : Fin 8) (a : Action), l.val = x.toNat → y = number a →
        (a = .renew → r.kind = .oneshot ∨ r.kind = .cadence →
          exec (.bind seq h x y) s = .next (s.answering seq .badKind [])) ∧
        (a ≠ .renew ∨ r.kind = .supervise ∨ r.kind = .window →
          exec (.bind seq h x y) s = .next ((s.putRecord h.slot { r with trigger := some ⟨l, a⟩ }).answering seq .done before))) ∧
      exec (.unbind seq h) s = .next ((s.putRecord h.slot { r with trigger := none }).answering seq .done before)

/-! ### Output lines and the safe state -/

/-- R117 and R118: ROUTE replaces one entry and reports the previous one (its bytes that its source type does not use are open, log 12)
and the level the line drives after the request; every value out of range is refused with BAD_FIELD after the handles. -/
def Obligations.RouteDecided : Prop :=
  ∀ (s : State) (seq : Byte) (b : RouteBody), s.ready .run seq →
    let goodHandles : Prop :=
      b.sourceType = 0 ∨ (b.sourceType = 1 ∧ (s.recordOf b.a).isSome = true) ∨
        (b.sourceType = 2 ∧ (s.recordOf b.a).isSome = true ∧ (s.recordOf b.b).isSome = true)
    (goodHandles → 16 ≤ b.output.toNat ∨ 2 ≤ b.safeLevel.toNat ∨ (b.sourceType ≠ 2 ∧ 2 ≤ b.item.toNat) ∨ 4 ≤ b.item.toNat →
      exec (.route seq b) s = .next (s.answering seq .badField [])) ∧
    (goodHandles → ∀ (o : Fin 16) (safeLevel level : Bool) (op : PairOp) (source : Source), o.val = b.output.toNat →
      b.safeLevel = (if safeLevel = true then 1 else 0) →
      (b.sourceType = 0 ∧ source = .static level ∧ b.item = (if level = true then 1 else 0)) ∨
        (b.sourceType = 1 ∧ source = .record b.a level ∧ b.item = (if level = true then 1 else 0)) ∨
        (b.sourceType = 2 ∧ source = .pair b.a b.b op ∧ b.item = (match op with
          | .and => 0
          | .or => 1
          | .nand => 2
          | .nor => 3)) →
      ∃ before : List Byte,
        exec (.route seq b) s = .next
          ({ s with ou := { s.ou with routes := s.ou.routes.set o ⟨source, safeLevel⟩ },
                    freeCount := s.freeCount + 4 }.answering seq .done
            (before ++ [if (if s.ou.safe.isSome = true then safeLevel else s.routeValue source) = true then 1 else 0])) ∧
        before.length = 7 ∧ before.take 1 = [if s.ou.routes[o].safeLevel = true then 1 else 0] ∧
        (match s.ou.routes[o].source with
          | .static x => (before.drop 1).take 2 = [0, if x = true then 1 else 0]
          | .record h x => (before.drop 1).take 4 = [1, if x = true then 1 else 0] ++ bytesHandle h
          | .pair h h' x => before.drop 1 = [2, match x with
              | .and => 0
              | .or => 1
              | .nand => 2
              | .nor => 3] ++ bytesHandle h ++ bytesHandle h'))

/-- R7, R116 and R120: a record's Signal, the route value of each source, and the level each output drives in each power state with the
safe state set and clear. -/
def Obligations.OutputsDriven : Prop :=
  (∀ r : Record, r.signal = true ↔ r.timing.state = .running ∧
    (r.kind = .oneshot ∨ r.kind = .supervise ∨ ∃ (run : Run) (start due : Time), r.timing = .active run .b start due)) ∧
  (∀ (s : State) (level : Bool), s.routeValue (.static level) = level) ∧
  (∀ (s : State) (a : Handle) (x : Record), s.recordOf a = some x →
    s.routeValue (.record a false) = x.signal ∧ s.routeValue (.record a true) = !x.signal) ∧
  (∀ (s : State) (a b : Handle) (x y : Record), s.recordOf a = some x → s.recordOf b = some y →
    s.routeValue (.pair a b .and) = (x.signal && y.signal) ∧ s.routeValue (.pair a b .or) = (x.signal || y.signal) ∧
    s.routeValue (.pair a b .nand) = !(x.signal && y.signal) ∧ s.routeValue (.pair a b .nor) = !(x.signal || y.signal)) ∧
  ∀ (s : State) (o : Fin 16),
    (s.pr.power = .loading → s.driven o = false) ∧
    (s.pr.power = .recovered ∨ s.pr.power = .hold ∨ s.pr.power = .parked → s.driven o = s.ou.routes[o].safeLevel) ∧
    (s.pr.power = .run → s.ou.safe ≠ none → s.driven o = s.ou.routes[o].safeLevel) ∧
    (s.pr.power = .run → s.ou.safe = none → s.driven o = s.routeValue s.ou.routes[o].source)

/-- R125 and R126: SAFE sets a clear safe state with cause host and posts SAFE_ENTERED, and leaves a set one alone; it answers whether it
entered and the cause in force. RELEASE of a clear safe state changes nothing; of a set one it is refused with the lowest-numbered
blocking record's handle (R80), or clears the safe state and answers the cause removed. -/
def Obligations.SafeAndReleaseDecided : Prop :=
  (∀ seq : Byte, refusedOutsideRun (.safe seq) seq ∧ refusedOutsideRun (.release seq) seq) ∧
  ∀ (s : State) (seq : Byte), s.ready .run seq →
    let blocks (i : Fin 256) : Prop :=
      ∃ r : Record, s.recordAt i = some r ∧ (r.consequence = .safe ∨ r.consequence = .safeAndReset) ∧
        ((∃ (phase : Phase) (start due : Time), r.timing = .active .lapsed phase start due) ∨
          ∃ (phase : Phase) (remaining : Time),
            r.timing = .paused .lapsed phase remaining ∨ r.timing = .parked .lapsed phase remaining)
    let bytes (c : Cause) : List Byte := match c with
      | .handle h => [0] ++ bytesHandle h
      | .host => [1, 0, 0]
    (s.ou.safe = none → exec (.safe seq) s = .next
      ({ s with ou := { s.ou with safe := some .host },
                nq := { s.nq with entries := postSystemEntry s.nq.entries (.safeEntered .host) s.td.now } }.answering seq .done
        [1, 1, 0, 0])) ∧
    (∀ c : Cause, s.ou.safe = some c → exec (.safe seq) s = .next (s.answering seq .done ([0] ++ bytes c))) ∧
    (s.ou.safe = none → exec (.release seq) s = .next (s.answering seq .done [2, 0, 0])) ∧
    (∀ (c : Cause) (i : Fin 256), s.ou.safe = some c → blocks i → (∀ j : Fin 256, j < i → ¬ blocks j) →
      exec (.release seq) s = .next (s.answering seq .blocked [BitVec.ofNat 8 i.val, s.slots[i].gen])) ∧
    (∀ c : Cause, s.ou.safe = some c → (∀ i : Fin 256, ¬ blocks i) →
      exec (.release seq) s = .next ({ s with ou := { s.ou with safe := none } }.answering seq .done (bytes c)))

/-! ### Notifications -/

/-- R133 and R134: an occurrence, whose bit in the kind set R183 gives, merges into the record's entry where it stands, or joins as the
youngest entry; so does a system posting of a kind. -/
def Obligations.PostingsMergeOrJoin : Prop :=
  let bit (k : Occurrence) : BitVec 6 := match k with
    | .phase => 1
    | .cycle => 2
    | .complete => 4
    | .miss => 8
    | .early => 16
    | .recovered => 32
  (∀ (before after : List Entry) (e : Entry) (h : Handle) (tag tag' : BitVec 16) (pri pri' : Fin 8) (kinds : BitVec 6)
      (k : Occurrence) (t : Time),
    e.content = .record h tag' pri' kinds → (∀ x ∈ before ++ after, x.handle? ≠ some h) →
    postOccurrence (before ++ e :: after) h tag pri k t =
      before ++ { e with
        content := .record h tag pri (kinds ||| bit k)
        count := if e.count = 255 then 255 else e.count + 1
        lastAt := t } :: after) ∧
  (∀ (q : List Entry) (h : Handle) (tag : BitVec 16) (pri : Fin 8) (k : Occurrence) (t : Time),
    (∀ x ∈ q, x.handle? ≠ some h) →
    postOccurrence q h tag pri k t = q ++ [⟨.record h tag pri (bit k), 1, t, t⟩]) ∧
  (∀ (before after : List Entry) (e : Entry) (old new : SystemInfo) (t : Time),
    e.content = .system old → old.kind = new.kind →
    (∀ x ∈ before ++ after, ∀ info : SystemInfo, x.content = .system info → info.kind ≠ new.kind) →
    postSystemEntry (before ++ e :: after) new t =
      before ++ { e with content := .system new, count := if e.count = 255 then 255 else e.count + 1, lastAt := t } :: after) ∧
  (∀ (q : List Entry) (new : SystemInfo) (t : Time),
    (∀ x ∈ q, ∀ info : SystemInfo, x.content = .system info → info.kind ≠ new.kind) →
    postSystemEntry q new t = q ++ [⟨.system new, 1, t, t⟩])

/-- R136 and R183: FETCH removes and returns the entry of highest priority, the oldest among equals, in every power state but LOADING, and
answers QUEUE_EMPTY for an empty queue. -/
def Obligations.FetchTakesHighest : Prop :=
  ∀ (s : State) (p : PowerState) (seq : Byte), s.ready p seq →
    (s.nq.entries = [] → exec (.fetch seq) s = .next (s.answering seq .queueEmpty [])) ∧
    ∀ (before after : List Entry) (e : Entry), s.nq.entries = before ++ e :: after →
      (∀ x ∈ before, x.priority < e.priority) → (∀ x ∈ after, x.priority ≤ e.priority) →
      exec (.fetch seq) s = .next
        ({ s with nq := { s.nq with entries := before ++ after } }.answering seq .done
          ([match e.content with
              | .record _ _ _ _ => (0 : Byte)
              | .system (.coldStart _) => 1
              | .system (.restored _ _ _ _ _) => 2
              | .system (.resumed _ _ _ _) => 3
              | .system (.checkpointDone _) => 4
              | .system (.checkpointAbandoned _) => 5
              | .system (.safeEntered _) => 6
              | .system (.resetIssued _) => 7,
            match e.content with
              | .record _ _ pri _ => BitVec.ofNat 8 pri.val
              | .system _ => 8,
            e.count] ++ bytes32 e.firstAt ++ bytes32 e.lastAt ++ bytes16 (BitVec.ofNat 16 (before ++ after).length) ++
            match e.content with
              | .record h tag _ kinds => bytesHandle h ++ bytes16 tag ++ [kinds.setWidth 8]
              | .system (.coldStart .noImage) => [0]
              | .system (.coldStart .discarded) => [1]
              | .system (.restored g origin savedNow parked lost) =>
                bytes32 g ++ [if origin = Origin.holdSave then 0 else 1] ++ bytes32 savedNow ++
                  bytes16 (BitVec.ofNat 16 parked) ++ bytes16 (BitVec.ofNat 16 lost)
              | .system (.resumed held origin ignored visited) =>
                bytes32 (BitVec.ofNat 32 held) ++ [if origin = ResumeOrigin.brownout then 0 else 1, ignored] ++
                  bytes16 (BitVec.ofNat 16 visited)
              | .system (.checkpointDone g) => bytes32 g
              | .system (.checkpointAbandoned .power) => [0]
              | .system (.checkpointAbandoned .clear) => [1]
              | .system (.safeEntered (.handle h)) => [0] ++ bytesHandle h
              | .system (.safeEntered .host) => [1, 0, 0]
              | .system (.resetIssued h) => bytesHandle h))

/-- R140 and R141: when ATTN is asserted, and SET_ATTN in RUN and RECOVERED; the response gives asserted as 0 and deasserted as 1
(log 13). -/
def Obligations.AttnAndItsThreshold : Prop :=
  (∀ s : State, s.attn = true ↔ s.pr.power ≠ .loading ∧ ∃ e ∈ s.nq.entries,
    (∃ (h : Handle) (tag : BitVec 16) (pri : Fin 8) (kinds : BitVec 6),
      e.content = .record h tag pri kinds ∧ s.nq.threshold.val ≤ pri.val) ∨
    ∃ info : SystemInfo, e.content = .system info) ∧
  ∀ (s : State) (p : PowerState) (seq x : Byte), s.ready p seq →
    (p = .run ∨ p = .recovered → 8 < x.toNat → exec (.setAttn seq x) s = .next (s.answering seq .badField [])) ∧
    (p = .run ∨ p = .recovered → ∀ t : Fin 9, t.val = x.toNat →
      let u : State := { s with nq := { s.nq with threshold := t } }
      exec (.setAttn seq x) s =
        .next (u.answering seq .done [BitVec.ofNat 8 s.nq.threshold.val, if u.attn = true then 0 else 1])) ∧
    (p = .hold ∨ p = .parked → exec (.setAttn seq x) s = .next (s.answering seq .holding []))

/-! ### Power, retention and recovery -/

/-- R156, R158, R160 and R161: CHECKPOINT is BUSY while one is in flight, and otherwise erases the target's marker and takes a snapshot of
the part at Now; its completion makes the snapshot the newest valid image and posts CHECKPOINT_DONE. -/
def Obligations.CheckpointTakenAndCompleted : Prop :=
  (∀ seq : Byte, refusedOutsideRun (.checkpoint seq) seq) ∧
  (∀ (s : State) (seq : Byte) (c : CheckpointInFlight), s.ready .run seq → s.pr.checkpoint = some c →
    exec (.checkpoint seq) s = .next (s.answering seq .busy [])) ∧
  (∀ (s : State) (seq : Byte) (b : Fin 2) (g : BitVec 32), s.ready .run seq → s.pr.checkpoint = none → s.pr.isTarget b g →
    ∃ snapshot : Image, s.imagedBy snapshot .checkpoint g ∧
      exec (.checkpoint seq) s = .next
        ({ s with pr := { s.pr with
            store := s.pr.store.set b { s.pr.store[b] with marker := false }
            banks := s.pr.banks.set b none
            checkpoint := some ⟨b, g, snapshot⟩ } }.answering seq .accepted ([BitVec.ofNat 8 b.val] ++ bytes32 g))) ∧
  ∀ (s : State) (p : PowerState) (c : CheckpointInFlight), s.steady p → s.pr.checkpoint = some c →
    ∃ q : PowerUnit, bankWritten s.pr q c.bank c.snapshot ∧
      exec .checkpointComplete s = .next { s with
        pr := { s.pr with store := q.store, banks := q.banks, checkpoint := none }
        nq := { s.nq with entries := postSystemEntry s.nq.entries (.checkpointDone c.generation) s.td.now } }

/-- R151 and R154: PWARN asserted in RUN begins HOLD: Now is kept, the hold counter is 0, the divider restarted, a checkpoint in flight
is abandoned and its target inherited, and the save begins; in every other power state it is noted. -/
def Obligations.PwarnAssertedHolds : Prop :=
  (∀ (s : State) (p : PowerState), s.steady p → p ≠ .run →
    exec .pwarnAsserted s = .next { s with pr := { s.pr with pwarn := true } }) ∧
  (∀ (s : State) (c : CheckpointInFlight), s.steady .run → s.pr.checkpoint = some c →
    exec .pwarnAsserted s = .next { s with
      td := { s.td with holdCounter := 0, divider := 0 }
      pr := { s.pr with pwarn := true, power := .hold, checkpoint := none, save := some ⟨c.bank, c.generation⟩ }
      nq := { s.nq with entries := postSystemEntry s.nq.entries (.checkpointAbandoned .power) s.td.now } }) ∧
  ∀ (s : State) (b : Fin 2) (g : BitVec 32), s.steady .run → s.pr.checkpoint = none → s.pr.isTarget b g →
    exec .pwarnAsserted s = .next { s with
      td := { s.td with holdCounter := 0, divider := 0 }
      pr := { s.pr with
        pwarn := true, power := .hold, save := some ⟨b, g⟩
        store := s.pr.store.set b { s.pr.store[b] with marker := false }
        banks := s.pr.banks.set b none } }

/-- R152 and R153: the hold save completes with an image of the part as it stands; the part is then PARKED while PWARN is asserted, and
otherwise does at once what the withdrawal of PWARN does in PARKED. -/
def Obligations.HoldSaveCompletes : Prop :=
  ∀ (s : State) (p : PowerState) (f : SaveInFlight), s.steady p → p ≠ .run → s.pr.save = some f →
    ∃ (img : Image) (q : PowerUnit), s.imagedBy img .holdSave f.generation ∧ bankWritten s.pr q f.bank img ∧
      let parked : State :=
        { s with pr := { s.pr with power := .parked, store := q.store, banks := q.banks, save := none } }
      (s.pr.pwarn = true → exec .holdSaveComplete s = .next parked) ∧
      (s.pr.pwarn = false → exec .holdSaveComplete s = exec .pwarnWithdrawn parked)

/-- R154, R166, R167 and R169: PWARN withdrawn is noted outside PARKED; in PARKED it takes brownout reconciliation: Now moves on by the
hold counter H, a STRETCH record's Due and Phase start with it, a CATCHUP record whose due is not past keeps both, RESUMED is posted
last with the ignored-edge set, which is emptied, and RUN begins. The whole outcome is that of the records visited in the due order,
each whole before the next (R168): a CATCHUP record whose due is past takes its expiry at every successive past due, with all that each
posts and applies. -/
def Obligations.BrownoutReconciles : Prop :=
  (∀ (s : State) (p : PowerState), s.steady p → p ≠ .parked →
    exec .pwarnWithdrawn s = .next { s with pr := { s.pr with pwarn := false } }) ∧
  ∀ s : State, s.steady .parked →
    let h := BitVec.ofNat 32 s.td.holdCounter
    let newNow := s.td.now + h
    let info : SystemInfo := .resumed s.td.holdCounter .brownout s.lu.ignored s.dueOrder.length
    ∃ (t : State) (q : List Entry), exec .pwarnWithdrawn s = .next t ∧
      t.pr = { s.pr with power := .run, pwarn := false } ∧ t.td = { s.td with now := newNow, divider := 0 } ∧
      t.lu = { s.lu with ignored := 0 } ∧ t.hp = s.hp ∧ t.ou.routes = s.ou.routes ∧ t.nq.threshold = s.nq.threshold ∧
      t.nq.entries = postSystemEntry q info newNow ∧
      (∀ i : Fin 256, t.slots[i].gen = s.slots[i].gen) ∧
      (∀ i : Fin 256, s.dueAt i = none → t.recordAt i = s.recordAt i) ∧
      (∀ (i : Fin 256) (r : Record) (run : Run) (phase : Phase) (start due : Time), s.recordAt i = some r →
        r.timing = .active run phase start due →
        (r.holdPolicy = .stretch → t.recordAt i = some { r with timing := .active run phase (start + h) (due + h) }) ∧
        (r.holdPolicy = .catchup → due - newNow ≠ 0 → (due - newNow).msb = false → t.recordAt i = some r)) ∧
      ((∀ (i : Fin 256) (r : Record), s.recordAt i = some r → s.dueAt i ≠ none → r.holdPolicy = .stretch) →
        t.nq.entries = postSystemEntry s.nq.entries info newNow ∧ t.ou = s.ou) ∧
      (s.recordsWf → s.duesWf → ∃ visit : Nat → State,
        visit 0 = { s with pr := { s.pr with pwarn := false } } ∧
        (∀ (k : Nat) (i : Fin 256) (r : Record) (run : Run) (phase : Phase) (start due : Time), s.dueOrder[k]? = some i →
          s.recordAt i = some r → r.timing = .active run phase start due →
          (r.holdPolicy = .stretch →
            visit (k + 1) = (visit k).putRecord i { r with timing := .active run phase (start + h) (due + h) }) ∧
          (r.holdPolicy = .catchup → (visit k).caughtUp (visit (k + 1)) i newNow)) ∧
        let last := visit s.dueOrder.length
        t = { last with
          td := { last.td with now := newNow, divider := 0 }
          lu := { last.lu with ignored := 0 }
          nq := { last.nq with entries := postSystemEntry last.nq.entries info newNow }
          pr := { last.pr with power := .run } })

/-- R164, R166, R167 and R169: RESUME refuses an outage above 1,073,741,823 ticks; with an outage of H ticks, or UNKNOWN, which is 0 with
every record under STRETCH, each PARKED record returns to its Resume state, a STRETCH one Remaining ticks after the new Now, a CATCHUP
one at its original instant, and RUN begins with RESUMED posted. The whole outcome is that of the records visited in R166's order, each
whole before the next (R168): a CATCHUP record whose due is past takes its expiry at every successive past due, with all that each posts
and applies. -/
def Obligations.ResumeReconciles : Prop :=
  ∀ (s : State) (seq : Byte) (outage : BitVec 32), s.ready .recovered seq → s.pr.pwarn = false →
    (outage ≠ 0xFFFFFFFF#32 → 1073741823 < outage.toNat → exec (.resume seq outage) s = .next (s.answering seq .badField [])) ∧
    ∀ (h : Nat) (unknown : Bool),
      (outage = 0xFFFFFFFF#32 ∧ h = 0 ∧ unknown = true) ∨
        (outage.toNat ≤ 1073741823 ∧ h = outage.toNat ∧ unknown = false) →
      let newNow := s.td.now + BitVec.ofNat 32 h
      let period (r : Record) (phase : Phase) : Time := match phase with
        | .a => ticks r.periodA
        | .b => ticks r.periodB
      let parked := ((List.finRange 256).filter fun i => (s.parkedAt i).isSome).length
      let info : SystemInfo := .resumed h .resume s.lu.ignored parked
      ∃ (t : State) (q : List Entry), exec (.resume seq outage) s = .next t ∧
        t.hp = answered seq .accepted [] ∧ t.pr = { s.pr with power := .run } ∧
        t.td = { s.td with now := newNow, divider := 0 } ∧ t.lu = { s.lu with ignored := 0 } ∧ t.ou.routes = s.ou.routes ∧
        t.nq.threshold = s.nq.threshold ∧ t.nq.entries = postSystemEntry q info newNow ∧
        (∀ i : Fin 256, t.slots[i].gen = s.slots[i].gen) ∧
        (∀ i : Fin 256, s.parkedAt i = none → t.recordAt i = s.recordAt i) ∧
        (∀ (i : Fin 256) (r : Record) (run : Run) (phase : Phase) (remaining : Time), s.recordAt i = some r →
          r.timing = .parked run phase remaining →
          (unknown = true ∨ r.holdPolicy = .stretch → t.recordAt i = some
            { r with timing := .active run phase (newNow + remaining - period r phase) (newNow + remaining) }) ∧
          (unknown = false → r.holdPolicy = .catchup → s.td.now + remaining - newNow ≠ 0 →
            (s.td.now + remaining - newNow).msb = false → t.recordAt i = some
              { r with timing := .active run phase (s.td.now + remaining - period r phase) (s.td.now + remaining) })) ∧
        ((unknown = true ∨ ∀ (i : Fin 256) (r : Record), s.recordAt i = some r → s.parkedAt i ≠ none → r.holdPolicy = .stretch) →
          t.nq.entries = postSystemEntry s.nq.entries info newNow ∧ t.ou = s.ou) ∧
        (s.recordsWf → s.duesWf → ∃ (order : List (Fin 256)) (visit : Nat → State),
          order.Nodup ∧ (∀ i : Fin 256, i ∈ order ↔ s.parkedAt i ≠ none) ∧
          (order.Pairwise fun i j => ∀ ri rj : Time, s.parkedAt i = some ri → s.parkedAt j = some rj →
            ri < rj ∨ (ri = rj ∧ (s.priorityAt j < s.priorityAt i ∨ (s.priorityAt j = s.priorityAt i ∧ i < j)))) ∧
          visit 0 = s.frameOver ∧
          (∀ (k : Nat) (i : Fin 256) (r : Record) (run : Run) (phase : Phase) (remaining : Time), order[k]? = some i →
            s.recordAt i = some r → r.timing = .parked run phase remaining →
            let dueFrom (due : Time) : State :=
              (visit k).putRecord i { r with timing := .active run phase (due - period r phase) due }
            (unknown = true ∨ r.holdPolicy = .stretch → visit (k + 1) = dueFrom (newNow + remaining)) ∧
            (unknown = false → r.holdPolicy = .catchup →
              (dueFrom (s.td.now + remaining)).caughtUp (visit (k + 1)) i newNow)) ∧
          let last := visit order.length
          t = { last with
            td := { last.td with now := newNow, divider := 0 }
            lu := { last.lu with ignored := 0 }
            nq := { last.nq with entries := postSystemEntry last.nq.entries info newNow }
            pr := { last.pr with power := .run }
            hp := answered seq .accepted [] })

/-- R68, R69 and R168: a SUPERVISE record under CATCHUP whose due was δ ticks after the frozen Now, with no pending update, has missed
once at that due and once in every Period A after it up to the new Now: (H − δ) / Period A + 1 misses in all, with the Miss count at
most 255, and the next due chained from the last. -/
def Obligations.CatchupCountsEveryMiss : Prop :=
  ∀ (s : State) (i : Fin 256) (r : Record) (run : Run) (phase : Phase) (start due : Time),
    s.steady .parked → s.td.holdCounter ≤ 1073741823 → s.recordAt i = some r → r.kind = .supervise →
    r.holdPolicy = .catchup → r.periodA ≠ 0 → r.pending = ⟨none, none, none⟩ → r.timing = .active run phase start due →
    (due - s.td.now).toNat ≤ s.td.holdCounter →
    let k := (s.td.holdCounter - (due - s.td.now).toNat) / r.periodA.toNat + 1
    ∃ t : State, exec .pwarnWithdrawn s = .next t ∧ t.recordAt i = some
      { r with
        missCount := if 255 ≤ r.missCount.toNat + k then 255 else r.missCount + BitVec.ofNat 8 k
        timing := .active .lapsed .a (due + BitVec.ofNat 32 ((k - 1) * r.periodA.toNat))
          (due + BitVec.ofNat 32 (k * r.periodA.toNat)) }

/-- R85, R146, R147, R155, R177 and R188: POWER_ON and the assertion of RSTN begin LOADING in every power state; the release of RSTN is
noted; a loss of the supply leaves a write in flight cut short; a loss of both supplies empties the store; the HRST pulse ends. An
unpowered part takes no other event (log 7), and what the beginning of LOADING does not replace is kept, through the dark too (log 19),
a frame in progress among it (log 20). -/
def Obligations.PowerEventsTaken : Prop :=
  let loading (s : State) : State :=
    { s with
      td := { s.td with holdCounter := 0 }
      nq := { s.nq with entries := [] }
      pr := { s.pr with power := .loading, checkpoint := none, save := none }
      hp := ⟨none, none, ⟨0, .starting, []⟩, s.hp.frame.map fun f => { f with metLoading := true }⟩ }
  (∀ (s : State) (pwarn rstn : Bool), exec (.powerOn pwarn rstn) s = .next
    (loading { s with supply := true, ou := { s.ou with hrst := none }, pr := { s.pr with pwarn := pwarn, rstn := rstn } })) ∧
  (∀ (s : State) (p : PowerState), s.steady p →
    exec .rstnAsserted s = .next (loading { s with pr := { s.pr with rstn := true } }) ∧
    exec .rstnReleased s = .next { s with pr := { s.pr with rstn := false } } ∧
    exec .supplyLost s = .next { s with supply := false, pr := { s.pr with checkpoint := none, save := none } } ∧
    exec .hrstPulseEnd s = .next { s with ou := { s.ou with hrst := none } } ∧ exec .storeContentsLost s = .next s) ∧
  (∀ s : State, s.supply = false →
    exec .storeContentsLost s = .next { s with pr := { s.pr with store := Vector.replicate 2 ⟨false, none⟩ } } ∧
    ∀ c : Instr, (∀ x y : Bool, c ≠ .powerOn x y) → c ≠ .storeContentsLost → exec c s = .next s)

/-- R147 to R149, R24, R154 and R177: a bank is valid when its marker is present and its CRC-32 matches; LOADING completes with the valid
image of the greater generation restored, in RECOVERED, or with the cold values, in RUN, or in HOLD while PWARN is asserted; it does
not complete while RSTN is asserted (R146). -/
def Obligations.LoadingCompletes : Prop :=
  (∀ (b : Bank) (x : BankInfo), b.judge = some x ↔ ∃ st : StoredImage, b.marker = true ∧ b.content = some st ∧
    st.crc = crc32 (Config.imageBytes st.image) ∧ x = ⟨st.image.generation, st.image.origin⟩) ∧
  ∀ (s : State) (levels : BitVec 8), s.steady .loading →
    (s.pr.rstn = true → exec (.loadingComplete levels) s = .next s) ∧
    (s.pr.rstn = false → (∀ b : Fin 2, s.pr.store[b].judge = none) →
      let cold : State :=
        { s with
          slots := Vector.replicate 256 ⟨0, none⟩
          td := { s.td with now := 0, tickPeriod := .ms1, divider := 0 }
          lu := { lines := Vector.ofFn fun l => ⟨⟨.none, 0⟩, levels.getLsbD l.val, none⟩, ignored := 0 }
          ou := { s.ou with routes := Vector.replicate 16 ⟨.static false, false⟩, safe := none }
          nq := { entries := postSystemEntry s.nq.entries (.coldStart .noImage) 0, threshold := 0 }
          hp := { s.hp with held := ⟨0, .done, []⟩ } }
      (s.pr.pwarn = false → exec (.loadingComplete levels) s =
        .next { cold with pr := { s.pr with power := .run, banks := Vector.replicate 2 none } }) ∧
      (s.pr.pwarn = true → s.pr.checkpoint = none → exec (.loadingComplete levels) s =
        .next { cold with
          td := { cold.td with holdCounter := 0 }
          pr := { s.pr with
            power := .hold, banks := Vector.replicate 2 none, save := some ⟨0, 1⟩
            store := s.pr.store.set 0 { s.pr.store[(0 : Fin 2)] with marker := false } } })) ∧
    (s.pr.rstn = false → ∀ (b c : Fin 2) (img : Image), b ≠ c → s.pr.store[b] = ⟨true, some ⟨img, imageCrc img⟩⟩ →
      (∀ y, s.pr.store[c].judge = some y → y.generation < img.generation) →
      let timed := (List.finRange 256).filter fun i => img.slots[i].record.any fun r => match r.timing with
        | .active _ _ _ => true
        | _ => false
      ∃ slots : Vector Slot 256,
        exec (.loadingComplete levels) s = .next
          { s with
            slots := slots
            td := { s.td with now := img.savedNow, tickPeriod := img.tickPeriod, divider := 0 }
            lu := { lines := Vector.ofFn fun l => ⟨img.lines[l], levels.getLsbD l.val, none⟩, ignored := 0 }
            ou := { s.ou with routes := img.routes, safe := img.safe }
            nq := { entries := postSystemEntry s.nq.entries
                      (.restored img.generation img.origin img.savedNow timed.length img.queueSize) img.savedNow
                    threshold := img.threshold }
            pr := { s.pr with power := .recovered, banks := s.pr.store.map Bank.judge }
            hp := { s.hp with held := ⟨0, .done, []⟩ } } ∧
        ∀ i : Fin 256, slots[i].gen = img.slots[i].gen ∧
          slots[i].record = img.slots[i].record.map fun r =>
            { r with timing := match r.timing with
                | .idle => Timing.idle
                | .active run phase remaining => .parked run phase remaining
                | .paused run phase remaining => .paused run phase remaining })

/-- R165 and R186: DISCARD in RECOVERED and CLEAR in RUN empty the table with every generation kept, the routes, the lines' configuration,
the ignored-edge set and the safe state; DISCARD invalidates both banks, posts COLD_START and enters RUN, or HOLD while PWARN is
asserted; CLEAR empties the queue, sets the threshold to 0 and abandons a checkpoint in flight. -/
def Obligations.DiscardAndClearEmptyThePart : Prop :=
  let emptied (s : State) : State :=
    { s with
      slots := s.slots.map fun slot => ⟨slot.gen, none⟩
      lu := { lines := s.lu.lines.map fun line => { line with config := ⟨.none, 0⟩ }, ignored := 0 }
      ou := { s.ou with routes := Vector.replicate 16 ⟨.static false, false⟩, safe := none } }
  (∀ (s : State) (seq : Byte), s.ready .recovered seq → s.pr.checkpoint = none →
    let u : State :=
      { emptied s with
        nq := { s.nq with entries := postSystemEntry s.nq.entries (.coldStart .discarded) s.td.now }
        pr := { s.pr with store := s.pr.store.map fun b => { b with marker := false }, banks := Vector.replicate 2 none } }
    (s.pr.pwarn = false → exec (.discard seq) s = .next
      ({ u with td := { s.td with divider := 0 }, pr := { u.pr with power := .run } }.answering seq .done [])) ∧
    (s.pr.pwarn = true → exec (.discard seq) s = .next
      ({ u with
          td := { s.td with divider := 0, holdCounter := 0 }
          pr := { u.pr with power := .hold, save := some ⟨0, 1⟩ } }.answering seq .done []))) ∧
  (∀ seq : Byte, refusedOutsideRun (.clear seq) seq) ∧
  ∀ (s : State) (seq : Byte), s.ready .run seq →
    let removed := bytes16 (BitVec.ofNat 16 ((List.finRange 256).filter fun i => (s.recordAt i).isSome).length)
    (s.pr.checkpoint = none → exec (.clear seq) s = .next
      ({ emptied s with nq := { entries := [], threshold := 0 } }.answering seq .done (removed ++ [0]))) ∧
    (∀ c : CheckpointInFlight, s.pr.checkpoint = some c → exec (.clear seq) s = .next
      ({ emptied s with
          nq := { entries := [⟨.system (.checkpointAbandoned .clear), 1, s.td.now, s.td.now⟩], threshold := 0 }
          pr := { s.pr with checkpoint := none } }.answering seq .done (removed ++ [1])))

/-! ### Invariants that every step keeps, in every state that has them -/

/-- Every record of the table and of every image stays within R4 to R6, and a timing phase ends one period after its Phase start. -/
def Obligations.RecordsKept : Prop :=
  ∀ s t : State, s.modesWf → s.recordsWf → step s = .next t → t.recordsWf

/-- Every distance stays within its phase's period and every Remaining from 1 to it, in the table and in the images, so that no due is
ever passed over, through expiries, holds and reconciliations of any length (R31, R39, R50, R168). -/
def Obligations.DuesKept : Prop :=
  ∀ s t : State, s.modesWf → s.recordsWf → s.duesWf → step s = .next t → t.duesWf

/-- What each power state implies of the other blocks stays so: PARKED records only in RECOVERED, no timing record there, an empty
ignored-edge set in RUN, a save in flight exactly in HOLD, a checkpoint only in RUN, an empty queue in LOADING (R6, R33, R113, R146,
R151 to R154, R163). -/
def Obligations.ModesKept : Prop :=
  ∀ s t : State, s.modesWf → step s = .next t → t.modesWf

/-- The queue never holds two entries of one handle or of one system kind, nor an entry without an occurrence (R130, R132). -/
def Obligations.QueueKept : Prop :=
  ∀ s t : State, s.queueWf → step s = .next t → t.queueWf

/-- No route, no record entry and no route of an image ever names a slot that holds no record of that generation (R11, R119, R145). -/
def Obligations.HandlesKept : Prop :=
  ∀ s t : State, s.modesWf → s.handlesWf → step s = .next t → t.handlesWf

/-- Two valid banks never carry the same generation, what is held of the banks is what the store holds, and a write in flight always has
an invalid target whose generation the other bank does not carry (R147, R156, R158, R159). -/
def Obligations.BanksKept : Prop :=
  ∀ s t : State, s.modesWf → s.banksWf → step s = .next t → t.banksWf
end

