-- ==== Sys2Proof/Laws/State.lean ====
section
/-! SUPPORT. Each named update of the state at each field, the records of the slots after a slot is written,
and what the pins carry. -/

namespace Sys2Proof.Machine

variable (s : State)

/-! ### putRecord -/

@[simp] theorem State.putRecord_slots (i : Fin 256) (r : Record) :
    (s.putRecord i r).slots = s.slots.set i { s.slots[i] with record := some r } := rfl
@[simp] theorem State.putRecord_td (i : Fin 256) (r : Record) : (s.putRecord i r).td = s.td := rfl
@[simp] theorem State.putRecord_lu (i : Fin 256) (r : Record) : (s.putRecord i r).lu = s.lu := rfl
@[simp] theorem State.putRecord_ou (i : Fin 256) (r : Record) : (s.putRecord i r).ou = s.ou := rfl
@[simp] theorem State.putRecord_nq (i : Fin 256) (r : Record) : (s.putRecord i r).nq = s.nq := rfl
@[simp] theorem State.putRecord_pr (i : Fin 256) (r : Record) : (s.putRecord i r).pr = s.pr := rfl
@[simp] theorem State.putRecord_hp (i : Fin 256) (r : Record) : (s.putRecord i r).hp = s.hp := rfl
@[simp] theorem State.putRecord_supply (i : Fin 256) (r : Record) : (s.putRecord i r).supply = s.supply := rfl
@[simp] theorem State.putRecord_refclk (i : Fin 256) (r : Record) : (s.putRecord i r).refclk = s.refclk := rfl
@[simp] theorem State.putRecord_freeCount (i : Fin 256) (r : Record) : (s.putRecord i r).freeCount = s.freeCount := rfl
@[simp] theorem State.putRecord_pending (i : Fin 256) (r : Record) : (s.putRecord i r).pending = s.pending := rfl

/-! ### freeRecord -/

@[simp] theorem State.freeRecord_slots (i : Fin 256) :
    (s.freeRecord i).slots = s.slots.set i { s.slots[i] with record := none } := rfl
@[simp] theorem State.freeRecord_td (i : Fin 256) : (s.freeRecord i).td = s.td := rfl
@[simp] theorem State.freeRecord_lu (i : Fin 256) : (s.freeRecord i).lu = s.lu := rfl
@[simp] theorem State.freeRecord_ou (i : Fin 256) : (s.freeRecord i).ou = s.ou := rfl
@[simp] theorem State.freeRecord_nq (i : Fin 256) : (s.freeRecord i).nq = s.nq := rfl
@[simp] theorem State.freeRecord_pr (i : Fin 256) : (s.freeRecord i).pr = s.pr := rfl
@[simp] theorem State.freeRecord_hp (i : Fin 256) : (s.freeRecord i).hp = s.hp := rfl
@[simp] theorem State.freeRecord_supply (i : Fin 256) : (s.freeRecord i).supply = s.supply := rfl
@[simp] theorem State.freeRecord_refclk (i : Fin 256) : (s.freeRecord i).refclk = s.refclk := rfl
@[simp] theorem State.freeRecord_freeCount (i : Fin 256) : (s.freeRecord i).freeCount = s.freeCount := rfl
@[simp] theorem State.freeRecord_pending (i : Fin 256) : (s.freeRecord i).pending = s.pending := rfl

/-! ### freeAll -/

@[simp] theorem State.freeAll_slots :
    (s.freeAll).slots = s.slots.map fun slot => { slot with record := none } := rfl
@[simp] theorem State.freeAll_td : (s.freeAll).td = s.td := rfl
@[simp] theorem State.freeAll_lu : (s.freeAll).lu = s.lu := rfl
@[simp] theorem State.freeAll_ou : (s.freeAll).ou = s.ou := rfl
@[simp] theorem State.freeAll_nq : (s.freeAll).nq = s.nq := rfl
@[simp] theorem State.freeAll_pr : (s.freeAll).pr = s.pr := rfl
@[simp] theorem State.freeAll_hp : (s.freeAll).hp = s.hp := rfl
@[simp] theorem State.freeAll_supply : (s.freeAll).supply = s.supply := rfl
@[simp] theorem State.freeAll_refclk : (s.freeAll).refclk = s.refclk := rfl
@[simp] theorem State.freeAll_freeCount : (s.freeAll).freeCount = s.freeCount := rfl
@[simp] theorem State.freeAll_pending : (s.freeAll).pending = s.pending := rfl

/-! ### place -/

@[simp] theorem State.place_slots (i : Fin 256) (r : Record) :
    (s.place i r).slots = s.slots.set i ⟨s.slots[i].gen + 1, some r⟩ := rfl
@[simp] theorem State.place_td (i : Fin 256) (r : Record) : (s.place i r).td = s.td := rfl
@[simp] theorem State.place_lu (i : Fin 256) (r : Record) : (s.place i r).lu = s.lu := rfl
@[simp] theorem State.place_ou (i : Fin 256) (r : Record) : (s.place i r).ou = s.ou := rfl
@[simp] theorem State.place_nq (i : Fin 256) (r : Record) : (s.place i r).nq = s.nq := rfl
@[simp] theorem State.place_pr (i : Fin 256) (r : Record) : (s.place i r).pr = s.pr := rfl
@[simp] theorem State.place_hp (i : Fin 256) (r : Record) : (s.place i r).hp = s.hp := rfl
@[simp] theorem State.place_supply (i : Fin 256) (r : Record) : (s.place i r).supply = s.supply := rfl
@[simp] theorem State.place_refclk (i : Fin 256) (r : Record) : (s.place i r).refclk = s.refclk := rfl
@[simp] theorem State.place_freeCount (i : Fin 256) (r : Record) : (s.place i r).freeCount = s.freeCount := rfl
@[simp] theorem State.place_pending (i : Fin 256) (r : Record) : (s.place i r).pending = s.pending := rfl

/-! ### post -/

@[simp] theorem State.post_slots (i : Fin 256) (r : Record) (k : Occurrence) (t : Time) : (s.post i r k t).slots = s.slots := rfl
@[simp] theorem State.post_td (i : Fin 256) (r : Record) (k : Occurrence) (t : Time) : (s.post i r k t).td = s.td := rfl
@[simp] theorem State.post_lu (i : Fin 256) (r : Record) (k : Occurrence) (t : Time) : (s.post i r k t).lu = s.lu := rfl
@[simp] theorem State.post_ou (i : Fin 256) (r : Record) (k : Occurrence) (t : Time) : (s.post i r k t).ou = s.ou := rfl
@[simp] theorem State.post_nq (i : Fin 256) (r : Record) (k : Occurrence) (t : Time) :
    (s.post i r k t).nq = { s.nq with entries := postOccurrence s.nq.entries (s.handleAt i) r.tag r.priority k t } := rfl
@[simp] theorem State.post_pr (i : Fin 256) (r : Record) (k : Occurrence) (t : Time) : (s.post i r k t).pr = s.pr := rfl
@[simp] theorem State.post_hp (i : Fin 256) (r : Record) (k : Occurrence) (t : Time) : (s.post i r k t).hp = s.hp := rfl
@[simp] theorem State.post_supply (i : Fin 256) (r : Record) (k : Occurrence) (t : Time) : (s.post i r k t).supply = s.supply := rfl
@[simp] theorem State.post_refclk (i : Fin 256) (r : Record) (k : Occurrence) (t : Time) : (s.post i r k t).refclk = s.refclk := rfl
@[simp] theorem State.post_freeCount (i : Fin 256) (r : Record) (k : Occurrence) (t : Time) : (s.post i r k t).freeCount = s.freeCount := rfl
@[simp] theorem State.post_pending (i : Fin 256) (r : Record) (k : Occurrence) (t : Time) : (s.post i r k t).pending = s.pending := rfl

/-! ### postSystem -/

@[simp] theorem State.postSystem_slots (info : SystemInfo) (t : Time) : (s.postSystem info t).slots = s.slots := rfl
@[simp] theorem State.postSystem_td (info : SystemInfo) (t : Time) : (s.postSystem info t).td = s.td := rfl
@[simp] theorem State.postSystem_lu (info : SystemInfo) (t : Time) : (s.postSystem info t).lu = s.lu := rfl
@[simp] theorem State.postSystem_ou (info : SystemInfo) (t : Time) : (s.postSystem info t).ou = s.ou := rfl
@[simp] theorem State.postSystem_nq (info : SystemInfo) (t : Time) :
    (s.postSystem info t).nq = { s.nq with entries := postSystemEntry s.nq.entries info t } := rfl
@[simp] theorem State.postSystem_pr (info : SystemInfo) (t : Time) : (s.postSystem info t).pr = s.pr := rfl
@[simp] theorem State.postSystem_hp (info : SystemInfo) (t : Time) : (s.postSystem info t).hp = s.hp := rfl
@[simp] theorem State.postSystem_supply (info : SystemInfo) (t : Time) : (s.postSystem info t).supply = s.supply := rfl
@[simp] theorem State.postSystem_refclk (info : SystemInfo) (t : Time) : (s.postSystem info t).refclk = s.refclk := rfl
@[simp] theorem State.postSystem_freeCount (info : SystemInfo) (t : Time) : (s.postSystem info t).freeCount = s.freeCount := rfl
@[simp] theorem State.postSystem_pending (info : SystemInfo) (t : Time) : (s.postSystem info t).pending = s.pending := rfl

/-! ### dropEntry -/

@[simp] theorem State.dropEntry_slots (h : Handle) : (s.dropEntry h).slots = s.slots := rfl
@[simp] theorem State.dropEntry_td (h : Handle) : (s.dropEntry h).td = s.td := rfl
@[simp] theorem State.dropEntry_lu (h : Handle) : (s.dropEntry h).lu = s.lu := rfl
@[simp] theorem State.dropEntry_ou (h : Handle) : (s.dropEntry h).ou = s.ou := rfl
@[simp] theorem State.dropEntry_nq (h : Handle) :
    (s.dropEntry h).nq = { s.nq with entries := s.nq.entries.filter fun e => !e.isOf h } := rfl
@[simp] theorem State.dropEntry_pr (h : Handle) : (s.dropEntry h).pr = s.pr := rfl
@[simp] theorem State.dropEntry_hp (h : Handle) : (s.dropEntry h).hp = s.hp := rfl
@[simp] theorem State.dropEntry_supply (h : Handle) : (s.dropEntry h).supply = s.supply := rfl
@[simp] theorem State.dropEntry_refclk (h : Handle) : (s.dropEntry h).refclk = s.refclk := rfl
@[simp] theorem State.dropEntry_freeCount (h : Handle) : (s.dropEntry h).freeCount = s.freeCount := rfl
@[simp] theorem State.dropEntry_pending (h : Handle) : (s.dropEntry h).pending = s.pending := rfl

/-! ### putLine -/

@[simp] theorem State.putLine_slots (l : Fin 8) (line : Line) : (s.putLine l line).slots = s.slots := rfl
@[simp] theorem State.putLine_td (l : Fin 8) (line : Line) : (s.putLine l line).td = s.td := rfl
@[simp] theorem State.putLine_lu (l : Fin 8) (line : Line) :
    (s.putLine l line).lu = { s.lu with lines := s.lu.lines.set l line } := rfl
@[simp] theorem State.putLine_ou (l : Fin 8) (line : Line) : (s.putLine l line).ou = s.ou := rfl
@[simp] theorem State.putLine_nq (l : Fin 8) (line : Line) : (s.putLine l line).nq = s.nq := rfl
@[simp] theorem State.putLine_pr (l : Fin 8) (line : Line) : (s.putLine l line).pr = s.pr := rfl
@[simp] theorem State.putLine_hp (l : Fin 8) (line : Line) : (s.putLine l line).hp = s.hp := rfl
@[simp] theorem State.putLine_supply (l : Fin 8) (line : Line) : (s.putLine l line).supply = s.supply := rfl
@[simp] theorem State.putLine_refclk (l : Fin 8) (line : Line) : (s.putLine l line).refclk = s.refclk := rfl
@[simp] theorem State.putLine_freeCount (l : Fin 8) (line : Line) : (s.putLine l line).freeCount = s.freeCount := rfl
@[simp] theorem State.putLine_pending (l : Fin 8) (line : Line) : (s.putLine l line).pending = s.pending := rfl

/-! ### restartDivider -/

@[simp] theorem State.restartDivider_slots : (s.restartDivider).slots = s.slots := rfl
@[simp] theorem State.restartDivider_td :
    (s.restartDivider).td = { s.td with divider := 0 } := rfl
@[simp] theorem State.restartDivider_lu : (s.restartDivider).lu = s.lu := rfl
@[simp] theorem State.restartDivider_ou : (s.restartDivider).ou = s.ou := rfl
@[simp] theorem State.restartDivider_nq : (s.restartDivider).nq = s.nq := rfl
@[simp] theorem State.restartDivider_pr : (s.restartDivider).pr = s.pr := rfl
@[simp] theorem State.restartDivider_hp : (s.restartDivider).hp = s.hp := rfl
@[simp] theorem State.restartDivider_supply : (s.restartDivider).supply = s.supply := rfl
@[simp] theorem State.restartDivider_refclk : (s.restartDivider).refclk = s.refclk := rfl
@[simp] theorem State.restartDivider_freeCount : (s.restartDivider).freeCount = s.freeCount := rfl
@[simp] theorem State.restartDivider_pending : (s.restartDivider).pending = s.pending := rfl

/-! ### holdResponse -/

@[simp] theorem State.holdResponse_slots (r : Response) : (s.holdResponse r).slots = s.slots := rfl
@[simp] theorem State.holdResponse_td (r : Response) : (s.holdResponse r).td = s.td := rfl
@[simp] theorem State.holdResponse_lu (r : Response) : (s.holdResponse r).lu = s.lu := rfl
@[simp] theorem State.holdResponse_ou (r : Response) : (s.holdResponse r).ou = s.ou := rfl
@[simp] theorem State.holdResponse_nq (r : Response) : (s.holdResponse r).nq = s.nq := rfl
@[simp] theorem State.holdResponse_pr (r : Response) : (s.holdResponse r).pr = s.pr := rfl
@[simp] theorem State.holdResponse_hp (r : Response) :
    (s.holdResponse r).hp = { s.hp with held := r } := rfl
@[simp] theorem State.holdResponse_supply (r : Response) : (s.holdResponse r).supply = s.supply := rfl
@[simp] theorem State.holdResponse_refclk (r : Response) : (s.holdResponse r).refclk = s.refclk := rfl
@[simp] theorem State.holdResponse_freeCount (r : Response) : (s.holdResponse r).freeCount = s.freeCount := rfl
@[simp] theorem State.holdResponse_pending (r : Response) : (s.holdResponse r).pending = s.pending := rfl

/-! ### endFrame -/

@[simp] theorem State.endFrame_slots : (s.endFrame).slots = s.slots := rfl
@[simp] theorem State.endFrame_td : (s.endFrame).td = s.td := rfl
@[simp] theorem State.endFrame_lu : (s.endFrame).lu = s.lu := rfl
@[simp] theorem State.endFrame_ou : (s.endFrame).ou = s.ou := rfl
@[simp] theorem State.endFrame_nq : (s.endFrame).nq = s.nq := rfl
@[simp] theorem State.endFrame_pr : (s.endFrame).pr = s.pr := rfl
@[simp] theorem State.endFrame_hp :
    (s.endFrame).hp = { s.hp with frame := none } := rfl
@[simp] theorem State.endFrame_supply : (s.endFrame).supply = s.supply := rfl
@[simp] theorem State.endFrame_refclk : (s.endFrame).refclk = s.refclk := rfl
@[simp] theorem State.endFrame_freeCount : (s.endFrame).freeCount = s.freeCount := rfl
@[simp] theorem State.endFrame_pending : (s.endFrame).pending = s.pending := rfl

/-! ### answer -/

@[simp] theorem State.answer_slots (seq : Byte) (status : Status) (body : List Byte) : (s.answer seq status body).slots = s.slots := rfl
@[simp] theorem State.answer_td (seq : Byte) (status : Status) (body : List Byte) : (s.answer seq status body).td = s.td := rfl
@[simp] theorem State.answer_lu (seq : Byte) (status : Status) (body : List Byte) : (s.answer seq status body).lu = s.lu := rfl
@[simp] theorem State.answer_ou (seq : Byte) (status : Status) (body : List Byte) : (s.answer seq status body).ou = s.ou := rfl
@[simp] theorem State.answer_nq (seq : Byte) (status : Status) (body : List Byte) : (s.answer seq status body).nq = s.nq := rfl
@[simp] theorem State.answer_pr (seq : Byte) (status : Status) (body : List Byte) : (s.answer seq status body).pr = s.pr := rfl
@[simp] theorem State.answer_hp (seq : Byte) (status : Status) (body : List Byte) :
    (s.answer seq status body).hp = ⟨some seq, some ⟨seq, status, body⟩, ⟨seq, status, body⟩, s.hp.frame⟩ := rfl
@[simp] theorem State.answer_supply (seq : Byte) (status : Status) (body : List Byte) : (s.answer seq status body).supply = s.supply := rfl
@[simp] theorem State.answer_refclk (seq : Byte) (status : Status) (body : List Byte) : (s.answer seq status body).refclk = s.refclk := rfl
@[simp] theorem State.answer_freeCount (seq : Byte) (status : Status) (body : List Byte) : (s.answer seq status body).freeCount = s.freeCount := rfl
@[simp] theorem State.answer_pending (seq : Byte) (status : Status) (body : List Byte) : (s.answer seq status body).pending = s.pending := rfl

/-! ### answering -/

@[simp] theorem State.answering_slots (seq : Byte) (status : Status) (body : List Byte) : (s.answering seq status body).slots = s.slots := rfl
@[simp] theorem State.answering_td (seq : Byte) (status : Status) (body : List Byte) : (s.answering seq status body).td = s.td := rfl
@[simp] theorem State.answering_lu (seq : Byte) (status : Status) (body : List Byte) : (s.answering seq status body).lu = s.lu := rfl
@[simp] theorem State.answering_ou (seq : Byte) (status : Status) (body : List Byte) : (s.answering seq status body).ou = s.ou := rfl
@[simp] theorem State.answering_nq (seq : Byte) (status : Status) (body : List Byte) : (s.answering seq status body).nq = s.nq := rfl
@[simp] theorem State.answering_pr (seq : Byte) (status : Status) (body : List Byte) : (s.answering seq status body).pr = s.pr := rfl
@[simp] theorem State.answering_hp (seq : Byte) (status : Status) (body : List Byte) :
    (s.answering seq status body).hp = answered seq status body := rfl
@[simp] theorem State.answering_supply (seq : Byte) (status : Status) (body : List Byte) : (s.answering seq status body).supply = s.supply := rfl
@[simp] theorem State.answering_refclk (seq : Byte) (status : Status) (body : List Byte) : (s.answering seq status body).refclk = s.refclk := rfl
@[simp] theorem State.answering_freeCount (seq : Byte) (status : Status) (body : List Byte) : (s.answering seq status body).freeCount = s.freeCount := rfl
@[simp] theorem State.answering_pending (seq : Byte) (status : Status) (body : List Byte) : (s.answering seq status body).pending = s.pending := rfl

/-! ### frameOver -/

@[simp] theorem State.frameOver_slots : (s.frameOver).slots = s.slots := rfl
@[simp] theorem State.frameOver_td : (s.frameOver).td = s.td := rfl
@[simp] theorem State.frameOver_lu : (s.frameOver).lu = s.lu := rfl
@[simp] theorem State.frameOver_ou : (s.frameOver).ou = s.ou := rfl
@[simp] theorem State.frameOver_nq : (s.frameOver).nq = s.nq := rfl
@[simp] theorem State.frameOver_pr : (s.frameOver).pr = s.pr := rfl
@[simp] theorem State.frameOver_hp :
    (s.frameOver).hp = { s.hp with frame := none } := rfl
@[simp] theorem State.frameOver_supply : (s.frameOver).supply = s.supply := rfl
@[simp] theorem State.frameOver_refclk : (s.frameOver).refclk = s.refclk := rfl
@[simp] theorem State.frameOver_freeCount : (s.frameOver).freeCount = s.freeCount := rfl
@[simp] theorem State.frameOver_pending : (s.frameOver).pending = s.pending := rfl

/-! ### holding -/

@[simp] theorem State.holding_slots (r : Response) : (s.holding r).slots = s.slots := rfl
@[simp] theorem State.holding_td (r : Response) : (s.holding r).td = s.td := rfl
@[simp] theorem State.holding_lu (r : Response) : (s.holding r).lu = s.lu := rfl
@[simp] theorem State.holding_ou (r : Response) : (s.holding r).ou = s.ou := rfl
@[simp] theorem State.holding_nq (r : Response) : (s.holding r).nq = s.nq := rfl
@[simp] theorem State.holding_pr (r : Response) : (s.holding r).pr = s.pr := rfl
@[simp] theorem State.holding_hp (r : Response) :
    (s.holding r).hp = { s.hp with held := r, frame := none } := rfl
@[simp] theorem State.holding_supply (r : Response) : (s.holding r).supply = s.supply := rfl
@[simp] theorem State.holding_refclk (r : Response) : (s.holding r).refclk = s.refclk := rfl
@[simp] theorem State.holding_freeCount (r : Response) : (s.holding r).freeCount = s.freeCount := rfl
@[simp] theorem State.holding_pending (r : Response) : (s.holding r).pending = s.pending := rfl

/-! ### cycle -/

@[simp] theorem State.cycle_slots : (s.cycle).slots = s.slots := rfl
@[simp] theorem State.cycle_td :
    (s.cycle).td = { s.td with divider := s.nextDivider } := rfl
@[simp] theorem State.cycle_lu : (s.cycle).lu = s.lu := rfl
@[simp] theorem State.cycle_ou :
    (s.cycle).ou = { s.ou with hrst := s.ou.hrst.map (· + 1) } := rfl
@[simp] theorem State.cycle_nq : (s.cycle).nq = s.nq := rfl
@[simp] theorem State.cycle_pr : (s.cycle).pr = s.pr := rfl
@[simp] theorem State.cycle_hp : (s.cycle).hp = s.hp := rfl
@[simp] theorem State.cycle_supply : (s.cycle).supply = s.supply := rfl
@[simp] theorem State.cycle_refclk :
    (s.cycle).refclk = s.refclk + 1 := rfl
@[simp] theorem State.cycle_freeCount : (s.cycle).freeCount = s.freeCount := rfl
@[simp] theorem State.cycle_pending : (s.cycle).pending = s.pending := rfl

/-! ### Slots that are read after one is written -/

theorem State.recordAt_putRecord (i j : Fin 256) (r : Record) :
    (s.putRecord i r).recordAt j = if i = j then some r else s.recordAt j := by
  by_cases h : i = j
  · subst h; simp [State.recordAt]
  · have : i.val ≠ j.val := fun e => h (Fin.ext e)
    simp [State.recordAt, h, Vector.getElem_set_ne, this]

theorem State.gen_putRecord (i j : Fin 256) (r : Record) : ((s.putRecord i r).slots[j]).gen = (s.slots[j]).gen := by
  by_cases h : i = j
  · subst h; simp
  · have : i.val ≠ j.val := fun e => h (Fin.ext e)
    simp [Vector.getElem_set_ne, this]

theorem State.handleAt_putRecord (i j : Fin 256) (r : Record) : (s.putRecord i r).handleAt j = s.handleAt j := by
  simp only [State.handleAt, State.gen_putRecord]

theorem State.recordAt_freeRecord (i j : Fin 256) :
    (s.freeRecord i).recordAt j = if i = j then none else s.recordAt j := by
  by_cases h : i = j
  · subst h; simp [State.recordAt]
  · have : i.val ≠ j.val := fun e => h (Fin.ext e)
    simp [State.recordAt, h, Vector.getElem_set_ne, this]

theorem State.recordAt_place (i j : Fin 256) (r : Record) :
    (s.place i r).recordAt j = if i = j then some r else s.recordAt j := by
  by_cases h : i = j
  · subst h; simp [State.recordAt]
  · have : i.val ≠ j.val := fun e => h (Fin.ext e)
    simp [State.recordAt, h, Vector.getElem_set_ne, this]

theorem State.recordAt_freeAll (j : Fin 256) : s.freeAll.recordAt j = none := by simp [State.recordAt]

@[simp] theorem State.recordAt_post (i j : Fin 256) (r : Record) (k : Occurrence) (t : Time) :
    (s.post i r k t).recordAt j = s.recordAt j := rfl

@[simp] theorem State.recordAt_postSystem (j : Fin 256) (info : SystemInfo) (t : Time) :
    (s.postSystem info t).recordAt j = s.recordAt j := rfl

/-- A handle names the record of its slot exactly when its generation is the slot's (R2). -/
theorem State.recordOf_eq_some (h : Handle) (r : Record) :
    s.recordOf h = some r ↔ s.slots[h.slot].gen = h.gen ∧ s.recordAt h.slot = some r := by
  unfold State.recordOf State.recordAt
  split <;> simp_all

/-! ### Pins -/

/-- With no supply no pin that the part drives carries anything (log 7). -/
theorem State.pins_dark (h : s.supply = false) (o : Fin 16) (n : Nat) :
    s.outPin o = none ∧ s.hrstPin = none ∧ s.attnPin = none ∧ s.sdoByte n = none := by
  simp [State.outPin, State.hrstPin, State.attnPin, State.sdoByte, h]

/-- With the supply present the output pins, HRST and ATTN carry the levels that R120, R85 and R141 give. -/
theorem State.pins_powered (h : s.supply = true) (o : Fin 16) :
    s.outPin o = some (s.driven o) ∧ s.hrstPin = some s.hrstHigh ∧ s.attnPin = some s.attn := by
  simp [State.outPin, State.hrstPin, State.attnPin, h]

end Sys2Proof.Machine
end

