-- ==== Sys2Proof/Laws/Ops.lean ====
section
/-! SUPPORT. What the shared operations can do: the settling of outstanding expiries, the admission of a request, and the parts of the
state that a consequence, a fault or an expiry leaves alone. -/

namespace Sys2Proof.Machine

variable (s : State)

/-! ### Settling and admission -/

/-- With no expiry outstanding none is taken (R39). -/
theorem State.dueNow_eq_nil (h : ∀ i : Fin 256, s.dueAt i ≠ some s.td.now) : s.dueNow = [] := by
  simp [State.dueNow, h]

theorem State.settle_of_settled (h : s.settled) : s.settle = s := by
  unfold State.settle
  split
  · rename_i hp
    rw [s.dueNow_eq_nil (h hp)]
    rfl
  · rfl

theorem State.settle_of_ne_run (h : s.pr.power ≠ .run) : s.settle = s := s.settle_of_settled fun e => absurd e h

/-- An event at a steady part acts on the state as it stands. -/
theorem State.event_of_steady {p : PowerState} (h : s.steady p) (f : State → State) : s.event f = .next (f s) := by
  simp only [State.event, h.1, if_true, s.settle_of_settled h.2.2]

/-- An event at an unpowered part does nothing (log 7). -/
theorem State.event_of_dark (h : s.supply = false) (f : State → State) : s.event f = .next s := by
  simp [State.event, h]

theorem State.not_frameIgnored (h : s.frameClean) : s.frameIgnored = false := by
  revert h
  unfold State.frameClean State.frameIgnored
  cases s.hp.frame <;> simp +contextual

theorem State.not_frameMetLoading (h : s.frameClean) (hp : s.pr.power ≠ .loading) : s.frameMetLoading = false := by
  revert h
  unfold State.frameClean State.frameMetLoading
  cases s.hp.frame <;> simp +contextual [hp]

/-- A clean frame outside LOADING passes tests 1 and 3 of R173. -/
theorem State.judge_clean (h : s.frameClean) (hp : s.pr.power ≠ .loading) (seq : Byte) (good : State → State) :
    s.judge seq good = good s.endFrame := by
  simp [State.judge, s.not_frameIgnored h, s.not_frameMetLoading h hp]

/-- A request whose frame is accepted is served (R173 test 6). -/
theorem State.request_of_ready {p : PowerState} {seq : Byte} (h : s.ready p seq) (a : Admission) (owner : State → Answer) :
    s.request seq a owner = .next (s.endFrame.serve seq a owner) := by
  have hp : s.pr.power ≠ .loading := h.1.2.1 ▸ h.2.1
  have hq : s.endFrame.hp.lastSeq ≠ some seq := h.2.2.2
  simp only [State.request, s.event_of_steady h.1, s.judge_clean h.2.2.1 hp, if_neg hq]

/-- A request that the power state refuses is answered with that status (R150). -/
theorem State.serve_refused {a : Admission} {st : Status} (h : s.refusal a = some st) (seq : Byte) (owner : State → Answer) :
    s.serve seq a owner = s.answer seq st [] := by
  simp only [State.serve, h]

/-- A request that the power state admits is executed by its owner and answered (R176 steps 3 and 4). -/
theorem State.serve_admitted {a : Admission} (h : s.refusal a = none) (seq : Byte) (owner : State → Answer) :
    s.serve seq a owner = (owner s).state.answer seq (owner s).status (owner s).body := by
  simp only [State.serve, h]

@[simp] theorem State.endFrame_answer (seq : Byte) (st : Status) (body : List Byte) :
    s.endFrame.answer seq st body = s.answering seq st body := rfl

/-- In RUN every request but RESUME and DISCARD reaches its owner (R150). -/
theorem State.refusal_run (h : s.pr.power = .run) {a : Admission} (h1 : a ≠ .resume) (h2 : a ≠ .discard) : s.refusal a = none := by
  cases a <;> simp_all [State.refusal]

theorem State.refusal_always (h : s.pr.power ≠ .loading) : s.refusal .always = none := by
  unfold State.refusal
  cases hp : s.pr.power <;> simp_all

/-- An accepted request in RUN that belongs to an ordinary owner. -/
theorem State.request_run {seq : Byte} (h : s.ready .run seq) (owner : State → Answer) :
    s.request seq .run owner =
      .next ((owner s.endFrame).state.answer seq (owner s.endFrame).status (owner s.endFrame).body) := by
  rw [s.request_of_ready h]
  have hr : s.endFrame.refusal .run = none := State.refusal_run _ h.1.2.1 (by decide) (by decide)
  rw [State.serve_admitted _ hr]

/-! ### What entering the safe state and issuing a host reset leave alone -/

theorem State.enterSafe_set {c : Cause} (h : s.ou.safe = some c) (c' : Cause) (t : Time) : s.enterSafe c' t = s := by
  simp only [State.enterSafe, h]

theorem State.enterSafe_clear (h : s.ou.safe = none) (c : Cause) (t : Time) :
    s.enterSafe c t = { s with ou := { s.ou with safe := some c } }.postSystem (.safeEntered c) t := by
  simp only [State.enterSafe, h]

/-- Two states that differ at most in the records, the outputs and the queue, with every generation and every route kept: what a
consequence, a fault and an expiry may change. -/
structure State.Keeps (s t : State) : Prop where
  gens : ∀ i : Fin 256, t.slots[i].gen = s.slots[i].gen
  td : t.td = s.td
  lu : t.lu = s.lu
  routes : t.ou.routes = s.ou.routes
  threshold : t.nq.threshold = s.nq.threshold
  pr : t.pr = s.pr
  hp : t.hp = s.hp
  supply : t.supply = s.supply
  refclk : t.refclk = s.refclk
  freeCount : t.freeCount = s.freeCount
  pending : t.pending = s.pending

theorem State.Keeps.refl : s.Keeps s := ⟨fun _ => rfl, rfl, rfl, rfl, rfl, rfl, rfl, rfl, rfl, rfl, rfl⟩

variable {s} in
theorem State.Keeps.trans {t u : State} (h : s.Keeps t) (h' : t.Keeps u) : s.Keeps u :=
  ⟨fun i => (h'.gens i).trans (h.gens i), h'.td.trans h.td, h'.lu.trans h.lu, h'.routes.trans h.routes,
    h'.threshold.trans h.threshold, h'.pr.trans h.pr, h'.hp.trans h.hp, h'.supply.trans h.supply, h'.refclk.trans h.refclk,
    h'.freeCount.trans h.freeCount, h'.pending.trans h.pending⟩

theorem State.keeps_putRecord (i : Fin 256) (r : Record) : s.Keeps (s.putRecord i r) :=
  ⟨fun j => s.gen_putRecord i j r, rfl, rfl, rfl, rfl, rfl, rfl, rfl, rfl, rfl, rfl⟩

theorem State.keeps_post (i : Fin 256) (r : Record) (k : Occurrence) (t : Time) : s.Keeps (s.post i r k t) :=
  ⟨fun _ => rfl, rfl, rfl, rfl, rfl, rfl, rfl, rfl, rfl, rfl, rfl⟩

theorem State.keeps_postSystem (info : SystemInfo) (t : Time) : s.Keeps (s.postSystem info t) :=
  ⟨fun _ => rfl, rfl, rfl, rfl, rfl, rfl, rfl, rfl, rfl, rfl, rfl⟩

theorem State.keeps_enterSafe (c : Cause) (t : Time) : s.Keeps (s.enterSafe c t) := by
  unfold State.enterSafe
  split
  · exact .refl s
  · exact ⟨fun _ => rfl, rfl, rfl, rfl, rfl, rfl, rfl, rfl, rfl, rfl, rfl⟩

theorem State.keeps_hostReset (h : Handle) (t : Time) : s.Keeps (s.hostReset h t) :=
  ⟨fun _ => rfl, rfl, rfl, rfl, rfl, rfl, rfl, rfl, rfl, rfl, rfl⟩

theorem State.keeps_applyConsequence (h : Handle) (c : Consequence) (t : Time) : s.Keeps (s.applyConsequence h c t) := by
  cases c
  · exact .refl s
  · exact s.keeps_enterSafe _ t
  · exact (s.keeps_enterSafe _ t).trans (State.keeps_hostReset _ h t)

theorem State.keeps_fault (i : Fin 256) (r : Record) (k : Occurrence) (t : Time) : s.Keeps (s.fault i r k t) :=
  ((s.keeps_post i r k t).trans (State.keeps_applyConsequence _ _ _ t)).trans (State.keeps_putRecord _ i _)

theorem State.keeps_completeRecord (i : Fin 256) (r : Record) (n : Time) : s.Keeps (s.completeRecord i r n) :=
  (s.keeps_post i r .complete n).trans (State.keeps_putRecord _ i _)

theorem State.keeps_phaseAEnd (i : Fin 256) (r : Record) (run : Run) (n : Time) : s.Keeps (s.phaseAEnd i r run n) := by
  unfold State.phaseAEnd
  split
  · exact (s.keeps_post i r .phase n).trans (State.keeps_putRecord _ i _)
  · exact s.keeps_putRecord i _

theorem State.keeps_cycleEnd (i : Fin 256) (r : Record) (n : Time) : s.Keeps (s.cycleEnd i r n) := by
  have h1 : s.Keeps (if r.notify.cycle then s.post i r .cycle n else s) := by
    split
    · exact s.keeps_post i r .cycle n
    · exact .refl s
  unfold State.cycleEnd
  dsimp only
  split
  · exact h1.trans (State.keeps_putRecord _ i _)
  · split
    · exact h1.trans (State.keeps_completeRecord _ i r n)
    · exact h1.trans (State.keeps_putRecord _ i _)

/-- An expiry keeps everything but records, the safe state, the pulse and the queue (R40). -/
theorem State.keeps_expire (i : Fin 256) (n : Time) : s.Keeps (s.expire i n) := by
  unfold State.expire
  repeat' split
  all_goals first
    | exact .refl s
    | exact s.keeps_completeRecord i _ n
    | exact s.keeps_phaseAEnd i _ _ n
    | exact s.keeps_cycleEnd i _ n
    | exact s.keeps_fault i _ _ n

theorem State.keeps_settle : s.Keeps s.settle := by
  unfold State.settle
  split
  · generalize s.dueNow = l
    suffices h : ∀ (l : List (Fin 256)) (t : State), s.Keeps t → s.Keeps (l.foldl (fun s i => s.expire i s.td.now) t) from
      h l s (.refl s)
    intro l
    induction l with
    | nil => exact fun t h => h
    | cons i l ih => exact fun t h => ih _ (h.trans (t.keeps_expire i _))
  · exact .refl s

/-- A renewal keeps what an expiry keeps (R67, R70, R73 to R75). -/
theorem State.keeps_renewAt {i : Fin 256} {r : Record} {t : Time} {res : State × RenewOutcome} (h : s.renewAt i r t = some res) :
    s.Keeps res.1 := by
  unfold State.renewAt at h
  repeat' split at h
  all_goals first
    | (cases h; exact s.keeps_fault i r .early t)
    | (cases h; exact s.keeps_putRecord i _)
    | (cases h; exact (s.keeps_post i r .recovered t).trans (State.keeps_putRecord _ i _))
    | cases h

/-! ### The records that an expiry leaves alone -/

@[simp] theorem State.slots_enterSafe (c : Cause) (t : Time) : (s.enterSafe c t).slots = s.slots := by
  unfold State.enterSafe
  split <;> rfl

@[simp] theorem State.slots_hostReset (h : Handle) (t : Time) : (s.hostReset h t).slots = s.slots := rfl

@[simp] theorem State.slots_applyConsequence (h : Handle) (c : Consequence) (t : Time) :
    (s.applyConsequence h c t).slots = s.slots := by
  cases c <;> simp [State.applyConsequence]

theorem State.slots_fault (i : Fin 256) (r : Record) (k : Occurrence) (t : Time) :
    (s.fault i r k t).slots = (s.putRecord i { r.phaseAFrom .lapsed t with missCount := satIncr r.missCount }).slots := by
  simp [State.fault]

/-- An expiry changes no slot but its own (R40). -/
theorem State.slots_expire_ne (i j : Fin 256) (n : Time) (h : i ≠ j) : (s.expire i n).slots[j] = s.slots[j] := by
  have hij : i.val ≠ j.val := fun e => h (Fin.ext e)
  unfold State.expire State.phaseAEnd State.cycleEnd State.completeRecord
  dsimp only
  repeat' split
  all_goals simp [State.slots_fault, Vector.getElem_set_ne, hij]

/-! ### What the judgement of a bank finds (R147) -/

/-- A bank whose marker stands over an image with its CRC is valid. -/
theorem Bank.judge_written (i : Image) : Bank.judge ⟨true, some ⟨i, imageCrc i⟩⟩ = some ⟨i.generation, i.origin⟩ := by
  simp [Bank.judge]

/-- A bank without its marker is not valid. -/
theorem Bank.judge_unmarked (c : Option StoredImage) : Bank.judge ⟨false, c⟩ = none := by
  cases c <;> simp [Bank.judge]

end Sys2Proof.Machine
end

