-- ==== Sys2Proof/Tests/Slice0.lean ====
section
/-! SUPPORT. The model's own tests: what WellFormed refuses, frames written out from the spec's tables, single steps of the spec's
worked examples, and a witness for the hypotheses of every statement that has them. -/

namespace Sys2Proof.Tests

set_option Elab.async false

open Sys2Proof Sys2Proof.Machine

/-! ### States -/

/-- The part in a power state at a Now, with nothing in it and no request executed yet. -/
def partIn (p : PowerState) (now : Time) : State :=
  { State.reset with
    td := { State.reset.td with now := now }
    pr := { State.reset.pr with power := p }
    hp := ⟨none, none, ⟨0, .done, []⟩, none⟩ }

/-- A slot holds this record with this generation. -/
def put (i : Fin 256) (g : Byte) (r : Record) (s : State) : State := { s with slots := s.slots.set i ⟨g, some r⟩ }

/-- A record with these periods, no Notify set, Consequence NOTIFY and Hold policy STRETCH. -/
def mk (k : Kind) (a b : Period) (timing : Timing) : Record :=
  { kind := k, timing := timing, periodA := a, periodB := b, repeatCount := 0, cyclesLeft := none, pending := ⟨none, none, none⟩,
    priority := 2, notify := ⟨false, false⟩, consequence := .notify, holdPolicy := .stretch, tag := 0, trigger := none,
    group := none, missCount := 0 }

/-- Timing in phase A. -/
def inA (start due : Time) : Timing := .active .running .a start due

/-- Timing in phase B. -/
def inB (start due : Time) : Timing := .active .running .b start due

/-- The state after a command. -/
def after (c : Instr) (s : State) : State :=
  match exec c s with
  | .next t => t
  | _ => s

/-- The response a command leaves held. -/
def response (c : Instr) (s : State) : Status × List Byte := ((after c s).hp.held.status, (after c s).hp.held.body)

/-- The record in a slot after a command. -/
def recordAfter (c : Instr) (s : State) (i : Fin 256) : Option Record := (after c s).recordAt i

/-! ### WellFormed refuses -/

theorem test_wf_starting_empty : wellFormed (.starting []) = false := by decide
theorem test_wf_frameError_empty : wellFormed (.frameError []) = false := by decide
theorem test_wf_frameError_good_frame : wellFormed (.frameError [2, 0x50, 0, 0xF1]) = false := by decide +kernel
theorem test_wf_duplicate_long : wellFormed (.duplicate 1 0 (List.replicate 33 0)) = false := by decide +kernel
theorem test_wf_badRequest_long : wellFormed (.badRequest 1 0 (List.replicate 33 0)) = false := by decide +kernel
theorem test_wf_badRequest_known : wellFormed (.badRequest 1 0x20 [0, 1]) = false := by decide
theorem test_wf_admits : wellFormed (.badRequest 1 0x20 [0]) = true ∧ wellFormed (.badRequest 1 0x20 (List.replicate 32 0)) = true ∧
    wellFormed (.frameError [2, 0x50, 0, 0xF0]) = true := by decide +kernel

/-! ### Checks and frames, written out from R147, R171, R180 and R181 (the CRC bytes computed outside the model) -/

/-- The published check value of this CRC-8's parameters over the nine digits. -/
theorem test_crc8 : crc8 [0x31, 0x32, 0x33, 0x34, 0x35, 0x36, 0x37, 0x38, 0x39] = 0xFB := by decide +kernel
/-- The published check value of this CRC-32's parameters over the nine digits. -/
theorem test_crc32 : crc32 [0x31, 0x32, 0x33, 0x34, 0x35, 0x36, 0x37, 0x38, 0x39] = 0x0376E6E7 := by decide +kernel

theorem test_decode_start : decodeFrame [7, 0x20, 2, 0, 1, 0x0F] = .start 7 ⟨0, 1⟩ := by decide +kernel
theorem test_decode_define : decodeFrame [1, 0x10, 15, 0, 0, 1, 0xF4, 0, 0, 0, 0, 0, 0, 0, 0, 0, 0, 10, 0x99] =
    .define 1 ⟨0, 500, 0, 0, 0, 0, 0, 0, 10⟩ := by decide +kernel
theorem test_decode_find : decodeFrame [1, 0x13, 4, 0, 40, 0, 22, 0x81] = .find 1 40 22 := by decide +kernel
theorem test_decode_modify :
    decodeFrame [0x2A, 0x14, 19, 12, 4, 0, 0x40, 0, 0, 0, 0, 0, 0, 0, 1, 0x90, 0, 0, 0, 0, 0, 1, 0x44] =
    .modify 0x2A ⟨12, 4⟩ ⟨64, 0, 0, 0, 0, 0, 400, 0, 0, 1⟩ := by decide +kernel
theorem test_decode_setTick : decodeFrame [3, 0x18, 1, 2, 0x03] = .setTick 3 2 := by decide +kernel
theorem test_decode_renew : decodeFrame [9, 0x28, 2, 20, 1, 0xEE] = .renew 9 ⟨20, 1⟩ := by decide +kernel
theorem test_decode_join : decodeFrame [4, 0x30, 3, 5, 2, 15, 0xA0] = .join 4 ⟨5, 2⟩ 15 := by decide +kernel
theorem test_decode_groupStart : decodeFrame [7, 0x32, 2, 3, 1, 0x7B] = .groupStart 7 3 1 := by decide +kernel
theorem test_decode_setLine : decodeFrame [7, 0x40, 3, 2, 1, 5, 0x5A] = .setLine 7 2 1 5 := by decide +kernel
theorem test_decode_bind : decodeFrame [5, 0x41, 4, 12, 4, 3, 1, 0x45] = .bind 5 ⟨12, 4⟩ 3 1 := by decide +kernel
theorem test_decode_route : decodeFrame [6, 0x48, 8, 5, 0, 2, 0, 20, 1, 21, 1, 0x07] =
    .route 6 ⟨5, 0, 2, 0, ⟨20, 1⟩, ⟨21, 1⟩⟩ := by decide +kernel
theorem test_decode_fetch : decodeFrame [2, 0x50, 0, 0xF1] = .fetch 2 := by decide +kernel
theorem test_decode_resume : decodeFrame [8, 0x59, 4, 0, 0, 0x91, 0x82, 0xDC] = .resume 8 37250 := by decide +kernel
/-- A frame of a known CODE whose LEN is wrong for it, and an empty frame. -/
theorem test_decode_other : decodeFrame [] = .emptyFrame ∧ decodeFrame [4, 0x20] = .frameError [4, 0x20] ∧
    decodeFrame (frameBytes 1 0x20 [0]) = .badRequest 1 0x20 [0] ∧ decodeFrame (frameBytes 1 0x77 []) = .badRequest 1 0x77 [] := by
  decide +kernel

/-! ### Worked examples -/

/-- 01, "Generations through DEFINE and RETIRE": three records, and a MISS entry of 1.1 queued. -/
def defined3 : State :=
  let s := put 0 1 (mk .oneshot 500 0 .idle) (put 1 1 (mk .supervise 500 0 .idle) (put 2 1 (mk .cadence 500 500 .idle) (partIn .run 0)))
  { s with nq := { s.nq with entries := postOccurrence [] ⟨1, 1⟩ 9 2 .miss 0 } }

theorem test_define_first : response (.define 1 ⟨0, 500, 0, 0, 0, 0, 0, 0, 5⟩) (partIn .run 0) = (.done, [0, 1]) := by decide +kernel
theorem test_define_next : response (.define 1 ⟨1, 500, 500, 0, 0, 0, 0, 0, 5⟩)
    (put 0 1 (mk .oneshot 500 0 .idle) (put 1 1 (mk .supervise 500 0 .idle) (partIn .run 0))) = (.done, [2, 1]) := by decide +kernel
theorem test_retire_in_use :
    response (.retire 2 ⟨1, 1⟩) { defined3 with ou := { defined3.ou with routes := defined3.ou.routes.set 3 ⟨.record ⟨1, 1⟩ false, false⟩ } } =
      (.inUse, [3]) := by decide +kernel
theorem test_retire_discards : response (.retire 2 ⟨1, 1⟩) defined3 = (.done, [1]) ∧
    (after (.retire 2 ⟨1, 1⟩) defined3).slots[1] = ⟨1, none⟩ ∧ response (.query 3 ⟨1, 1⟩) (after (.retire 2 ⟨1, 1⟩) defined3) = (.badHandle, []) := by
  decide +kernel

/-- 01, "A resumed scan". -/
def scanned : State := [3, 4, 7, 9, 12, 15, 20, 21, 30, 200].foldl (fun s i => put i 1 { mk .oneshot 1 0 .idle with tag := 40 } s) (partIn .run 0)

theorem test_find_eight : response (.find 1 40 0) scanned =
    (.done, [8, 3, 1, 4, 1, 7, 1, 9, 1, 12, 1, 15, 1, 20, 1, 21, 1, 0, 22]) := by decide +kernel
theorem test_find_rest : response (.find 1 40 22) scanned = (.done, [2, 30, 1, 200, 1, 1, 0]) ∧
    response (.find 1 40 256) scanned = (.done, [0, 1, 0]) := by decide +kernel

/-- 01, "An immediate change of period". -/
def modified : State := put 12 4 (mk .supervise 500 0 (inA 10000 10500)) (partIn .run 10300)

theorem test_modify_immediate_later :
    recordAfter (.modify 1 ⟨12, 4⟩ ⟨64, 0, 0, 0, 0, 0, 400, 0, 0, 1⟩) modified 12 = some (mk .supervise 400 0 (inA 10000 10400)) := by
  decide +kernel
theorem test_modify_immediate_expires : response (.modify 1 ⟨12, 4⟩ ⟨64, 0, 0, 0, 0, 0, 200, 0, 0, 1⟩) modified = (.done, [1]) ∧
    recordAfter (.modify 1 ⟨12, 4⟩ ⟨64, 0, 0, 0, 0, 0, 200, 0, 0, 1⟩) modified 12 =
      some { mk .supervise 200 0 (.active .lapsed .a 10300 10500) with missCount := 1 } := by decide +kernel

/-- 02, "Equal dues". -/
def equalDues : State :=
  put 4 1 { mk .cadence 700 300 (inA 19300 20000) with notify := ⟨true, false⟩ }
    (put 6 1 (mk .oneshot 2000 0 (inA 18000 20000))
      (put 9 2 { mk .supervise 1000 0 (inA 19000 20000) with priority := 5 }
        (put 30 1 { mk .cadence 50 50 (inA 19951 20001) with priority := 7 } (partIn .run 19998))))

theorem test_due_order : equalDues.dueOrder = [9, 4, 6, 30] := by decide +kernel
/-- 02: the expiries at 20,000 are taken before the next command, in the due order. -/
theorem test_expiries_at_due :
    let t := after (.nop 1) { equalDues with td := { equalDues.td with now := 20000 } }
    t.dueOrder = [30, 4, 9] ∧ t.dueAt 9 = some 21000 ∧ t.dueAt 4 = some 20300 ∧
      t.nq.entries.map (·.handle?) = [some ⟨9, 2⟩, some ⟨4, 1⟩, some ⟨6, 1⟩] := by decide +kernel
theorem test_tick : (after .tick equalDues).td.now = 19999 := by decide +kernel
/-- 02, R28: the refusal names the lowest-numbered slot that is not IDLE. -/
theorem test_setTick_refused : response (.setTick 1 0) equalDues = (.badState, [4, 1]) := by decide +kernel
theorem test_setTick : (after (.setTick 1 0) (partIn .run 5)).td.tickPeriod = .us10 := by decide +kernel

/-- 03, "A pause in phase B". -/
theorem test_pause : response (.pause 1 ⟨8, 1⟩) (put 8 1 (mk .cadence 400 250 (inB 6400 6650)) (partIn .run 6500)) = (.done, [0, 0, 150]) := by
  decide +kernel
theorem test_continue : recordAfter (.continueRecord 1 ⟨8, 1⟩) (put 8 1 (mk .cadence 400 250 (.paused .running .b 150)) (partIn .run 9000)) 8 =
    some (mk .cadence 400 250 (inB 8900 9150)) := by decide +kernel
/-- 03, "A cadence with staged modifications": START, and the cycle end at 2,000 that takes Repeat count 3. -/
theorem test_start : response (.start 1 ⟨5, 2⟩) (put 5 2 { mk .cadence 300 200 .idle with repeatCount := 4 } (partIn .run 1000)) =
    (.done, [0, 0, 0x05, 0x14]) := by decide +kernel
theorem test_cycle_end :
    recordAfter .expiry (put 5 2 { mk .cadence 400 100 (inB 1900 2000) with
      repeatCount := 4, cyclesLeft := some 3, pending := ⟨none, none, some 3⟩ } (partIn .run 2000)) 5 =
    some { mk .cadence 400 100 (inA 2000 2400) with repeatCount := 3, cyclesLeft := some 3 } := by decide +kernel
/-- 03, R46 and R48: a stop from RUNNING, and a restart that chains nothing. -/
theorem test_stop : response (.stop 1 ⟨0, 1⟩) (put 0 1 (mk .oneshot 100 0 (inA 0 100)) (partIn .run 40)) = (.done, [1]) := by decide +kernel
theorem test_restart : recordAfter (.restart 1 ⟨0, 1⟩) (put 0 1 (mk .oneshot 100 0 (inA 0 100)) (partIn .run 40)) 0 =
    some (mk .oneshot 100 0 (inA 40 140)) := by decide +kernel

/-- 04, "A window record through an early renewal, a miss and recovery": at 5,600 and at 7,500. -/
def window5600 : State := put 20 1 { mk .window 800 200 (inA 5000 5800) with consequence := .safe, priority := 6 } (partIn .run 5600)

theorem test_renew_early : response (.renew 1 ⟨20, 1⟩) window5600 = (.done, [2, 0, 0, 0x19, 0x00, 1]) ∧
    (after (.renew 1 ⟨20, 1⟩) window5600).ou.safe = some (.handle ⟨20, 1⟩) ∧
    response (.release 2) (after (.renew 1 ⟨20, 1⟩) window5600) = (.blocked, [20, 1]) := by decide +kernel
theorem test_renew_recovers : response (.renew 1 ⟨20, 1⟩)
    (put 20 1 { mk .window 800 200 (.active .lapsed .b 7400 7600) with missCount := 2 } (partIn .run 7500)) =
      (.done, [1, 0, 0, 0x20, 0x6C, 2]) := by decide +kernel

/-- 05, "One group through start, restart, pause, continue and stop". -/
def grouped : State :=
  put 2 1 { mk .cadence 100 100 .idle with group := some 3 }
    (put 5 3 { mk .oneshot 100 0 .idle with group := some 3 }
      (put 7 1 { mk .supervise 500 0 (.active .lapsed .a 2750 3250) with group := some 3, missCount := 1 }
        (put 11 2 { mk .window 100 50 (.paused .running .a 30) with group := some 3 }
          (put 9 1 { mk .oneshot 200 0 .idle with group := some 4 } (partIn .run 3000)))))

theorem test_groupStart : response (.groupStart 1 3 0) grouped = (.done, [0, 4, 0, 2]) ∧
    (after (.groupStart 1 3 0) grouped).dueAt 2 = some 3100 ∧ (after (.groupStart 1 3 0) grouped).dueAt 9 = none := by decide +kernel
theorem test_groupRestart : response (.groupStart 1 3 1) { grouped with td := { grouped.td with now := 3040 } } = (.done, [0, 4, 0, 3]) ∧
    (after (.groupStart 1 3 1) { grouped with td := { grouped.td with now := 3040 } }).dueAt 7 = some 3540 := by decide +kernel
theorem test_groupPause : response (.groupPause 1 3) grouped = (.done, [0, 4, 0, 1]) := by decide +kernel
theorem test_groupContinue : response (.groupContinue 1 3) { grouped with td := { grouped.td with now := 3100 } } = (.done, [0, 4, 0, 1]) ∧
    (after (.groupContinue 1 3) { grouped with td := { grouped.td with now := 3100 } }).dueAt 11 = some 3130 := by decide +kernel
theorem test_groupStop : response (.groupStop 1 3) grouped = (.done, [0, 4, 0, 2]) := by decide +kernel
theorem test_join_leave : response (.join 1 ⟨9, 1⟩ 15) grouped = (.done, [1, 4]) ∧ response (.leave 1 ⟨9, 1⟩) grouped = (.done, [1, 4]) := by
  decide +kernel

/-- 06, "Qualifying a line through its filter": line 2, RISE, 5 µs. -/
def filtered (c : Option Candidate) (cycle : Nat) : State :=
  let s := partIn .hold 0
  { s with lu := { s.lu with lines := s.lu.lines.set 2 ⟨⟨.rise, 5⟩, false, c⟩ }, refclk := cycle }

theorem test_candidate_created : (after (.sampledLevelChange 2 true) (filtered none 40)).lu.lines[2].candidate = some ⟨true, 40⟩ := by
  decide +kernel
theorem test_candidate_removed : (after (.sampledLevelChange 2 false) (filtered (some ⟨true, 0⟩) 12)).lu.lines[2].candidate = none := by
  decide +kernel
/-- 06: held for 20 cycles from cycle 40, the candidate is due at cycle 60 and not before. -/
theorem test_candidate_held : (filtered (some ⟨true, 40⟩) 58).idle.pending = [] ∧
    (filtered (some ⟨true, 40⟩) 59).idle.pending = [.candidateAccepted 2] ∧
    (after (.candidateAccepted 2) (filtered (some ⟨true, 40⟩) 60)).lu.lines[2].level = true := by decide +kernel
theorem test_setLine :
    let t := after (.setLine 1 2 3 15) { filtered (some ⟨true, 40⟩) 58 with pr := (partIn .run 0).pr }
    t.hp.held = ⟨1, .done, [0, 1]⟩ ∧ t.lu.lines[2].candidate = some ⟨true, 58⟩ := by decide +kernel

/-- 06, "One edge over four bound records": a falling edge on line 4. -/
def boundSlots : State :=
  put 3 1 { mk .supervise 2000 0 (inA 49200 51200) with trigger := some ⟨4, .renew⟩ }
    (put 6 2 { mk .window 1000 300 (inA 49500 50500) with trigger := some ⟨4, .renew⟩, consequence := .safe }
      (put 10 1 { mk .oneshot 250 0 .idle with trigger := some ⟨4, .start⟩ }
        (put 14 1 { mk .cadence 100 100 (.paused .running .b 60) with trigger := some ⟨4, .restart⟩ }
          (put 8 1 { mk .oneshot 400 0 .idle with trigger := some ⟨5, .start⟩ } (partIn .run 50000)))))

/-- Line 4, on which a fall is admitted, with its candidate. -/
def bound4 : State :=
  { boundSlots with lu := { boundSlots.lu with lines := boundSlots.lu.lines.set 4 ⟨⟨.both, 2⟩, true, some ⟨false, 0⟩⟩ } }

theorem test_edge_over_bound :
    let t := after (.candidateAccepted 4) bound4
    t.dueAt 3 = some 52000 ∧ t.dueAt 6 = some 51000 ∧ t.dueAt 10 = some 50250 ∧ t.dueAt 14 = none ∧ t.dueAt 8 = none ∧
      t.ou.safe = some (.handle ⟨6, 2⟩) ∧ t.nq.entries.map (·.handle?) = [some ⟨6, 2⟩, none] := by decide +kernel
theorem test_bind_unbind : response (.bind 1 ⟨8, 1⟩ 7 2) bound4 = (.done, [1, 5, 0]) ∧ response (.unbind 1 ⟨8, 1⟩) bound4 = (.done, [1, 5, 0]) := by
  decide +kernel

/-- 06, "An edge during a brownout": the withdrawal with the counter at 3,200 and line 1 in the ignored-edge set. -/
def parked2 : State :=
  let s := put 2 4 (mk .supervise 3000 0 (inA 69000 72000)) (partIn .parked 70000)
  { s with td := { s.td with holdCounter := 3200 }, lu := { s.lu with ignored := 2 }, pr := { s.pr with pwarn := true } }

theorem test_brownout_stretch :
    let t := after .pwarnWithdrawn parked2
    t.recordAt 2 = some (mk .supervise 3000 0 (inA 72200 75200)) ∧ t.td.now = 73200 ∧
      t.nq.entries = [⟨.system (.resumed 3200 .brownout 2 1), 1, 73200, 73200⟩] := by decide +kernel

/-- 07, "Routes through a fault and its release", at 10,000. -/
def routed : State :=
  let s := put 3 1 { mk .supervise 400 0 (inA 10000 10400) with consequence := .safeAndReset }
    (put 5 1 (mk .oneshot 3000 0 (inA 9000 12000)) (put 6 1 (mk .cadence 100 50 (inB 10000 10050)) (partIn .run 10000)))
  { s with ou := { s.ou with routes := (((s.ou.routes.set 0 ⟨.record ⟨3, 1⟩ false, false⟩).set 1 ⟨.pair ⟨5, 1⟩ ⟨6, 1⟩ .and, false⟩).set 2
      ⟨.static true, false⟩).set 3 ⟨.record ⟨3, 1⟩ true, true⟩ } }

theorem test_outputs : [0, 1, 2, 3].map routed.driven = [true, true, true, false] := by decide +kernel
/-- 07, at 10,400: the miss of 3.1 turns the lines to their safe levels and begins the pulse. -/
theorem test_outputs_safe :
    let t := after .expiry { routed with
      td := { routed.td with now := 10400 }, slots := routed.slots.set 6 ⟨1, some (mk .cadence 100 50 (inA 10350 10450))⟩ }
    [0, 1, 2, 3].map t.driven = [false, false, false, true] ∧ t.hrstHigh = false ∧ t.nq.entries.length = 3 := by decide +kernel
/-- 07, at 10,500: the previous entry, and the level that the safe state makes it drive. -/
theorem test_route :
    let s := { routed with ou := { routed.ou with safe := some (.handle ⟨3, 1⟩) } }
    (response (.route 1 ⟨2, 1, 0, 1, ⟨0, 0⟩, ⟨0, 0⟩⟩) s).2.take 3 = [0, 0, 1] ∧
      (response (.route 1 ⟨2, 1, 0, 1, ⟨0, 0⟩, ⟨0, 0⟩⟩) s).2.getLast? = some 1 := by decide +kernel
theorem test_safe : response (.safe 1) (partIn .run 0) = (.done, [1, 1, 0, 0]) := by decide +kernel
theorem test_hrst_end : (after .hrstPulseEnd { routed with ou := { routed.ou with hrst := some 8000 } }).hrstHigh = true := by decide +kernel

/-- 08, "Coalescing, priorities and FETCH", the queue at 2,005 (in RECOVERED, which executes both requests). -/
def queued : State :=
  let s := partIn .recovered 2010
  { s with nq := { threshold := 5, entries :=
      [⟨.record ⟨4, 2⟩ 0 7 2, 3, 1000, 2000⟩, ⟨.record ⟨12, 1⟩ 0 3 4, 1, 1200, 1200⟩, ⟨.record ⟨9, 1⟩ 0 6 0x28, 2, 1800, 2005⟩,
        ⟨.system (.safeEntered (.handle ⟨9, 1⟩)), 1, 1800, 1800⟩] } }

theorem test_fetch_system : response (.fetch 1) queued =
    (.done, [6, 8, 1, 0, 0, 0x07, 0x08, 0, 0, 0x07, 0x08, 0, 3, 0, 9, 1]) := by decide +kernel
theorem test_fetch_order : let t := after (.fetch 2) (after (.fetch 1) queued)
    t.hp.held.body.take 3 = [0, 7, 3] ∧ t.attn = true ∧ (after (.fetch 3) t).attn = false := by decide +kernel
theorem test_setAttn : response (.setAttn 1 8) queued = (.done, [5, 0]) ∧ response (.setAttn 1 9) queued = (.badField, []) := by decide +kernel

/-- 09, "A brownout of 4,500 ticks": the replay of 7.2 and the stretch of 3.1. -/
def brownout : State :=
  let s := put 3 1 { mk .cadence 600 400 (inA 99800 100400) with notify := ⟨true, false⟩ }
    (put 7 2 { mk .cadence 1000 500 (inB 99700 100200) with
      notify := ⟨false, true⟩, holdPolicy := .catchup, repeatCount := 8, cyclesLeft := some 5, pending := ⟨some 800, none, none⟩, priority := 4 }
      (partIn .parked 100000))
  { s with td := { s.td with holdCounter := 4500 }, pr := { s.pr with pwarn := true } }

theorem test_brownout_catchup :
    let t := after .pwarnWithdrawn brownout
    t.recordAt 7 = some { mk .cadence 800 500 (inA 104100 104900) with
      notify := ⟨false, true⟩, holdPolicy := .catchup, repeatCount := 8, cyclesLeft := some 1, priority := 4 } ∧
    t.dueAt 3 = some 104900 ∧ t.dueOrder = [7, 3] ∧
    t.nq.entries = [⟨.record ⟨7, 2⟩ 0 4 2, 4, 100200, 104100⟩, ⟨.system (.resumed 4500 .brownout 0 2), 1, 104500, 104500⟩] := by
  decide +kernel
/-- 09, R151: bank 1 is the target, of generation 42, when bank 0 holds generation 41. -/
def checkpointed : State :=
  let s := partIn .run 100000
  { s with pr := { s.pr with banks := s.pr.banks.set 0 (some ⟨41, .checkpoint⟩) } }

theorem test_hold : (after .pwarnAsserted checkpointed).pr.save = some ⟨1, 42⟩ ∧ (after .pwarnAsserted checkpointed).pr.power = .hold := by
  decide +kernel
theorem test_checkpoint : response (.checkpoint 1) checkpointed = (.accepted, [1, 0, 0, 0, 42]) ∧
    response (.checkpoint 2) (after (.checkpoint 1) checkpointed) = (.busy, []) := by decide +kernel
theorem test_checkpoint_complete : (after .checkpointComplete (after (.checkpoint 1) checkpointed)).nq.entries =
    [⟨.system (.checkpointDone 42), 1, 100000, 100000⟩] := by decide +kernel
theorem test_hold_save_complete :
    (after .holdSaveComplete (after .pwarnAsserted checkpointed)).pr.banks[1] = some ⟨42, .holdSave⟩ ∧
      (after .holdSaveComplete (after .pwarnAsserted checkpointed)).pr.power = .parked := by decide +kernel

/-- 10, "Retries at the port": after LOADING completes with no valid bank. -/
def coldStarted : State := after (.loadingComplete 0) State.reset

theorem test_cold_start : coldStarted.pr.power = .run ∧ coldStarted.hp.held = ⟨0, .done, []⟩ ∧ coldStarted.hp.lastSeq = none ∧
    coldStarted.nq.entries = [⟨.system (.coldStart .noImage), 1, 0, 0⟩] := by decide +kernel
theorem test_duplicate_frame : response (.define 1 ⟨0, 500, 0, 0, 0, 0, 0, 0, 10⟩) (after (.define 1 ⟨0, 500, 0, 0, 0, 0, 0, 0, 10⟩) coldStarted) =
    (.done, [0, 1]) := by decide +kernel
theorem test_short_frame : (after (.frameError [4, 0x20]) coldStarted).hp.held = ⟨4, .frameError, [1]⟩ ∧
    (after (.frameError [4, 0x20]) coldStarted).hp.lastSeq = none := by decide +kernel
theorem test_renew_bad_kind : response (.renew 5 ⟨0, 1⟩) (put 0 1 (mk .oneshot 500 0 (inA 120 620)) (partIn .run 130)) = (.badKind, []) := by
  decide +kernel
theorem test_csn_fall : [0, 1, 2, 3, 4].map (after (.csnFallingEdge false) coldStarted).sdoByte =
    [some 0, some 0, some 0, some (crc8 [0, 0, 0]), some 0] := by decide +kernel
theorem test_starting : (after (.starting [9, 0x50]) State.reset).hp.held = ⟨9, .starting, []⟩ := by decide +kernel

/-- 11, "An outage of 37,250 ticks": RECOVERED with 1.2 and 5.1 PARKED. -/
def outage : State :=
  let s := put 1 2 { mk .supervise 2000 0 (.parked .running .a 1500) with consequence := .safe, holdPolicy := .catchup, priority := 6 }
    (put 5 1 (mk .cadence 300 200 (.parked .running .b 100))
      (put 9 4 (mk .oneshot 10000 0 (.paused .running .a 4000)) (partIn .recovered 500000)))
  { s with lu := { s.lu with ignored := 8 } }

theorem test_resume :
    let t := after (.resume 1 37250) outage
    t.hp.held = ⟨1, .accepted, []⟩ ∧ t.td.now = 537250 ∧ t.recordAt 5 = some (mk .cadence 300 200 (inB 537150 537350)) ∧
    (t.recordAt 1).map (·.missCount) = some 18 ∧ t.dueAt 1 = some 537500 ∧ t.ou.safe = some (.handle ⟨1, 2⟩) ∧
    t.nq.entries.map (fun e => (e.count, e.firstAt, e.lastAt)) =
      [(18, 501500, 535500), (1, 501500, 501500), (1, 537250, 537250)] := by decide +kernel
theorem test_discard : response (.discard 1) outage = (.done, []) ∧ (after (.discard 1) outage).pr.power = .run ∧
    (after (.discard 1) outage).slots[5] = ⟨1, none⟩ := by decide +kernel
theorem test_clear : response (.clear 1) defined3 = (.done, [0, 3, 0]) ∧ (after (.clear 1) defined3).nq.entries = [] := by decide +kernel
theorem test_power_cycle : (after (.powerOn true false) (after .supplyLost outage)).pr.power = .loading ∧
    (after .rstnAsserted outage).hp.held = ⟨0, .starting, []⟩ ∧ (after .tick (after .supplyLost outage)).td = outage.td := by decide +kernel

/-! ### Witnesses: states, and why no expiry is outstanding in them -/

/-- No record's Due is Now. -/
def Quiet (s : State) : Prop := ∀ i : Fin 256, s.dueAt i ≠ some s.td.now

theorem recordAt_partIn (p : PowerState) (n : Time) (i : Fin 256) : (partIn p n).recordAt i = none := by
  simp [partIn, State.reset, State.recordAt, freeSlot]

theorem quiet_partIn (p : PowerState) (n : Time) : Quiet (partIn p n) := by
  intro i
  simp [State.dueAt, recordAt_partIn]

theorem recordAt_put (i j : Fin 256) (g : Byte) (r : Record) (s : State) :
    (put i g r s).recordAt j = if i = j then some r else s.recordAt j := by
  by_cases h : i = j
  · subst h
    simp [put, State.recordAt]
  · have : i.val ≠ j.val := fun e => h (Fin.ext e)
    simp [put, State.recordAt, Vector.getElem_set_ne, this, h]

/-- A record's Due is not this Now. -/
def notDue (r : Record) (t : Time) : Bool :=
  match r.timing with
  | .active _ _ _ due => due != t
  | _ => true

theorem quiet_put {s : State} (h : Quiet s) (i : Fin 256) (g : Byte) (r : Record) (hr : notDue r s.td.now = true) :
    Quiet (put i g r s) := by
  intro j
  have hj := h j
  show (put i g r s).dueAt j ≠ some s.td.now
  unfold State.dueAt at hj ⊢
  rw [recordAt_put]
  split_ifs
  · unfold notDue at hr
    cases ht : r.timing <;> simp_all
  · exact hj

/-- A part with one record, which has come due, expires that record first. -/
theorem firstDue_put (i : Fin 256) (g : Byte) (r : Record) (n : Time) {run : Run} {phase : Phase} {start : Time}
    (h : r.timing = .active run phase start n) : (put i g r (partIn .run n)).firstDue i := by
  refine ⟨rfl, rfl, ?_, ?_⟩
  · simp [State.dueAt, recordAt_put, h]
    rfl
  · intro j hj
    simp [State.dueAt, recordAt_put, Ne.symm hj, recordAt_partIn]

/-- A part that is quiet, powered, in a power state other than LOADING and with no frame and no request behind it accepts any frame. -/
theorem ready_of_quiet {s : State} {p : PowerState} (h : Quiet s) (h1 : s.supply = true) (h2 : s.pr.power = p) (h3 : p ≠ .loading)
    (h4 : s.hp.frame = none) (h5 : s.hp.lastSeq = none) (seq : Byte) : s.ready p seq :=
  ⟨⟨h1, h2, fun _ => h⟩, h3, by simp [State.frameClean, h4], by simp [h5]⟩

theorem ready_partIn (p : PowerState) (n : Time) (h : p ≠ .loading) (seq : Byte) : (partIn p n).ready p seq :=
  ready_of_quiet (quiet_partIn p n) rfl rfl h rfl rfl seq

theorem steady_partIn (p : PowerState) (n : Time) : (partIn p n).steady p := ⟨rfl, rfl, fun _ => quiet_partIn p n⟩

def rec0 : Record := { mk .oneshot 500 0 .idle with group := some 15 }
def rec1 : Record := mk .oneshot 500 0 (inA 9700 10200)
def rec2 : Record := mk .cadence 500 300 (inB 9900 10200)
def rec3 : Record := { mk .supervise 500 0 (.active .lapsed .a 9700 10200) with missCount := 255, consequence := .safe }
def rec4 : Record := mk .window 500 300 (inA 9700 10200)
def rec5 : Record := mk .window 500 300 (.active .lapsed .b 9800 10100)
def rec6 : Record := { mk .cadence 500 300 (.paused .running .b 150) with trigger := some ⟨7, .restart⟩ }
def rec7 : Record := { mk .window 500 300 (.paused .lapsed .a 30) with consequence := .safeAndReset }
def rec8 : Record := mk .cadence 500 300 (inA 9600 10100)
def rec9 : Record := mk .supervise 500 0 (inA 9600 10100)
def rec255 : Record := mk .supervise 500 0 .idle

/-- The part in RUN at Now 10,000 with a record of every kind and of every state that RUN has. -/
def table : State :=
  put 0 1 rec0 (put 1 1 rec1 (put 2 1 rec2 (put 3 1 rec3 (put 4 1 rec4 (put 5 1 rec5 (put 6 1 rec6 (put 7 1 rec7 (put 8 1 rec8
    (put 9 1 rec9 (put 255 0 rec255 (partIn .run 10000)))))))))))

theorem quiet_table : Quiet table := by
  unfold table
  iterate 11 refine quiet_put ?_ _ _ _ (by decide +kernel)
  exact quiet_partIn _ _

theorem ready_table (seq : Byte) : table.ready .run seq := ready_of_quiet quiet_table rfl rfl (by decide) rfl rfl seq

/-! ### Witnesses of the hypotheses, clause by clause -/

/-- Every RUN refusal of `refusedOutsideRun` meets its power states. -/
theorem witness_refusedOutsideRun : (partIn .hold 5).ready .hold 7 ∧ (partIn .parked 5).ready .parked 7 ∧
    (partIn .recovered 5).ready .recovered 7 :=
  ⟨ready_partIn .hold 5 (by decide) 7, ready_partIn .parked 5 (by decide) 7, ready_partIn .recovered 5 (by decide) 7⟩

theorem witness_StepRunsFrontCommand : { table with pending := [.tick, .nop 1] }.pending = .tick :: [.nop 1] := rfl

theorem witness_IdleStepPassesOneCycle :
    (table.pending = [] ∧ { table with supply := false }.supply = false) ∧
    (put 3 1 (mk .oneshot 10 0 (inA 0 10)) (partIn .run 10)).dueAt 3 = some (partIn .run 10).td.now ∧
    (table.supply = true ∧ table.settled) :=
  ⟨⟨rfl, rfl⟩, by decide +kernel, rfl, fun _ => quiet_table⟩

/-- One cycle short of the pulse's 8,000, of a candidate's 20 and of a tick's 4,000, and one cycle later. -/
theorem test_idle_boundary :
    let s (n : Nat) : State :=
      { filtered (some ⟨true, 40⟩) (n + 60) with
        td := { (partIn .parked 0).td with divider := n + 4000 }, ou := { (partIn .parked 0).ou with hrst := some (n + 8000) }
        pr := { (partIn .parked 0).pr with power := .parked } }
    ({ s 0 with td := { (s 0).td with divider := 3998 }, refclk := 58, ou := { (s 0).ou with hrst := some 7998 } } : State).idle.pending = [] ∧
    ({ s 0 with td := { (s 0).td with divider := 3999 }, refclk := 59, ou := { (s 0).ou with hrst := some 7999 } } : State).idle.pending =
      [.hrstPulseEnd, .candidateAccepted 2, .tick] := by decide +kernel

theorem witness_DecodeEncodedRequest : encodeFrame (.start 7 ⟨0, 1⟩) = some [7, 0x20, 2, 0, 1, 0x0F] := by decide +kernel

/-- LEN 33, LEN 32 with one byte too few, LEN 32 complete with a wrong CRC, and a complete good frame of LEN 32. -/
theorem witness_BadFrameReported :
    (partIn .hold 5).steady .hold ∧ (partIn .hold 5).frameClean ∧ frameDefect (7 :: [0x50, 33]) = some .length ∧
    frameDefect (7 :: 0x50 :: 32 :: List.replicate 32 0) = some .short ∧
    frameDefect (7 :: ([0x50, 32] ++ List.replicate 32 0 ++ [crc8 ([7, 0x50, 32] ++ List.replicate 32 0) + 1])) = some .crc ∧
    frameDefect ([7, 0x50, 32] ++ List.replicate 32 0 ++ [crc8 ([7, 0x50, 32] ++ List.replicate 32 0)]) = none ∧
    frameDefect (7 :: []) = some .short :=
  ⟨steady_partIn _ _, by decide, by decide +kernel, by decide +kernel, by decide +kernel, by decide +kernel, by decide +kernel⟩

/-- The part after a request with SEQ 7. -/
def replied : State := { partIn .parked 5 with hp := ⟨some 7, some ⟨7, .done, [1]⟩, ⟨9, .frameError, [0]⟩, none⟩ }

theorem witness_DuplicateReplayed : replied.steady .parked ∧ replied.frameClean ∧ replied.hp.lastSeq = some 7 ∧
    replied.hp.lastResponse = some ⟨7, .done, [1]⟩ ∧ requestFields (.start 7 ⟨0, 1⟩) = some (7, 0x20, [0, 1]) ∧
    requestLength 0x20 ≠ some [0#8].length :=
  ⟨⟨rfl, rfl, fun _ => quiet_partIn .parked 5⟩, by decide, rfl, rfl, by decide, by decide⟩

/-- The part in a power state with this frame in progress. -/
def framed (p : PowerState) (f : Frame) : State := { partIn p 5 with hp := { (partIn p 5).hp with frame := some f } }

theorem witness_FramesNotJudged :
    ((framed .run ⟨true, false, []⟩).steady .run ∧ (framed .run ⟨true, false, []⟩).hp.frame = some ⟨true, false, []⟩ ∧
      frameSeq (.clear 3) = some 3 ∧ wellFormed (.clear 3) = true) ∧
    ((framed .run ⟨false, true, []⟩).steady .run ∧ ((framed .run ⟨false, true, []⟩).hp.frame.all fun f => !f.ignored) = true ∧
      ((framed .run ⟨false, true, []⟩).hp.frame.any fun f => f.metLoading) = true) ∧
    (State.reset.steady .loading ∧ (State.reset.hp.frame.all fun f => !f.ignored) = true ∧ frameSeq (.starting [5]) = some 5 ∧
      wellFormed (.starting [5]) = true) :=
  ⟨⟨⟨rfl, rfl, fun _ => quiet_partIn .run 5⟩, rfl, rfl, rfl⟩, ⟨⟨rfl, rfl, fun _ => quiet_partIn .run 5⟩, rfl, rfl⟩,
    ⟨rfl, rfl, (fun h => nomatch h)⟩, rfl, rfl, rfl⟩

theorem witness_CsnFallBeginsFrame : table.steady .run ∧ table.hp.frame = none ∧ State.reset.steady .loading ∧
    State.reset.hp.frame = none := ⟨⟨rfl, rfl, fun _ => quiet_table⟩, rfl, ⟨rfl, rfl, (fun h => nomatch h)⟩, rfl⟩

theorem witness_RequestsRefusedBeforeOwner :
    (table.ready .run 7 ∧ requestLength 0x20 ≠ some [0#8].length ∧ requestLength 0x77 = none) ∧
    (requestFields (.start 7 ⟨0, 1⟩) = some (7, 0x20, [0, 1]) ∧
      0x20#8 ∉ [0x00#8, 0x01#8, 0x12#8, 0x13#8, 0x50#8, 0x51#8, 0x59#8, 0x5A#8]) ∧
    (({ partIn .recovered 5 with pr := { (partIn .recovered 5).pr with pwarn := true } } : State).ready .recovered 7 ∧
      requestFields (.resume 7 0) = some (7, 0x59, [0, 0, 0, 0]) ∧ requestFields (.discard 7) = some (7, 0x5A, [])) ∧
    (requestFields (.setAttn 7 8) = some (7, 0x51, [8]) ∧ 0x51#8 ∉ [0x00#8, 0x01#8, 0x12#8, 0x13#8, 0x50#8]) :=
  ⟨⟨ready_table 7, by decide, by decide⟩, ⟨by decide, by decide⟩,
    ⟨ready_of_quiet (quiet_partIn .recovered 5) rfl rfl (by decide) rfl rfl 7, by decide, by decide⟩, by decide, by decide⟩

/-- No valid bank, one valid bank, and two. -/
theorem witness_NopAndStatusAnswered :
    (table.ready .run 7 ∧ table.pr.banks[(0 : Fin 2)] = none ∧ table.pr.banks[(1 : Fin 2)] = none) ∧
    (checkpointed.ready .run 7 ∧ checkpointed.pr.banks[(0 : Fin 2)] = some ⟨41, .checkpoint⟩ ∧
      ∀ y, checkpointed.pr.banks[(1 : Fin 2)] = some y → y.generation < 41#32) ∧
    (let s := { checkpointed with pr := { checkpointed.pr with banks := checkpointed.pr.banks.set 1 (some ⟨40, .holdSave⟩) } };
      s.ready .run 7 ∧ ∀ y, s.pr.banks[(1 : Fin 2)] = some y → y.generation < 41#32) := by
  have hq : checkpointed.ready .run 7 := ready_of_quiet (quiet_partIn .run 100000) rfl rfl (by decide) rfl rfl 7
  refine ⟨⟨ready_table 7, by decide +kernel, by decide +kernel⟩, ⟨hq, by decide +kernel, ?_⟩, hq, ?_⟩
  · intro y hy
    cases hy
  · intro y hy
    cases hy
    decide

/-- A generation that the slot does not have, a FREE slot, and the two ways in which a ROUTE's handle fails. -/
theorem witness_BadHandleRefused : table.ready .run 7 ∧ table.recordOf ⟨0, 2⟩ = none ∧ table.recordOf ⟨10, 0⟩ = none ∧
    2 < (3 : Byte).toNat ∧ (table.recordOf ⟨1, 1⟩).isSome = true :=
  ⟨ready_table 7, by decide +kernel, by decide +kernel, by decide, by decide +kernel⟩

/-- Every slot but `i` holds an IDLE record. -/
def full (i : Option (Fin 256)) : State :=
  { partIn .run 5 with
    slots := Vector.ofFn fun j => ⟨255, if some j = i then none else some rec255⟩ }

theorem recordAt_full (i : Option (Fin 256)) (j : Fin 256) : (full i).recordAt j = if some j = i then none else some rec255 := by
  simp [full, State.recordAt]

theorem ready_full (i : Option (Fin 256)) : (full i).ready .run 7 := by
  refine ready_of_quiet (p := .run) (fun j => ?_) rfl rfl (by decide) rfl rfl 7
  unfold State.dueAt
  rw [recordAt_full]
  by_cases h : some j = i <;> simp [h, rec255, mk]

/-- A Kind of 4, a Priority of 8 and a Period A of 0 are out of range; a ONESHOT may not have a Consequence; no slot is FREE, and only
slot 255 is, with generation 255. -/
theorem witness_DefineDecided :
    let fields (d : DefineBody) : Prop :=
      d.kind.toNat < 4 ∧ d.periodA ≠ 0 ∧ ((d.kind = 1 ∨ d.kind = 3) ↔ d.periodB ≠ 0) ∧ (d.repeatCount ≠ 0 → d.kind = 1) ∧
      d.priority.toNat < 8 ∧ d.notify.toNat < 4 ∧ (d.kind = 0 ∨ d.kind = 2 → d.notify = 0) ∧
      (d.kind = 3 → d.notify.getLsbD 1 = false) ∧ d.consequence.toNat < 3 ∧ d.holdPolicy.toNat < 2
    let kinds (d : DefineBody) : Prop := d.consequence ≠ 0 → d.kind = 2 ∨ d.kind = 3
    (full none).ready .run 7 ∧ (full (some 255)).ready .run 7 ∧
    (¬ fields ⟨4, 1, 0, 0, 0, 0, 0, 0, 0⟩ ∧ ¬ fields ⟨0, 1, 0, 0, 8, 0, 0, 0, 0⟩ ∧ ¬ fields ⟨0, 0, 0, 0, 0, 0, 0, 0, 0⟩) ∧
    (fields ⟨0, 1, 0, 0, 7, 0, 2, 1, 0⟩ ∧ ¬ kinds ⟨0, 1, 0, 0, 7, 0, 2, 1, 0⟩) ∧
    (fields ⟨3, 1, 1, 0, 7, 1, 2, 1, 0⟩ ∧ kinds ⟨3, 1, 1, 0, 7, 1, 2, 1, 0⟩) ∧
    (∀ i : Fin 256, ((full none).recordAt i).isSome = true) ∧ (full (some 255)).recordAt 255 = none ∧
    ∀ j : Fin 256, j < 255 → ((full (some 255)).recordAt j).isSome = true := by
  refine ⟨ready_full _, ready_full _, by decide, by decide, by decide, fun i => by simp [recordAt_full], by simp [recordAt_full], ?_⟩
  intro j hj
  simp [recordAt_full, Fin.ne_of_lt hj]

/-- Output 15 routed to 2.1 beside 1.1. -/
def pairRouted : State := { table with ou := { table.ou with routes := table.ou.routes.set 15 ⟨.pair ⟨1, 1⟩ ⟨2, 1⟩ .nor, true⟩ } }

theorem witness_RetireDecided : pairRouted.ready .run 7 ∧ pairRouted.recordOf ⟨9, 9⟩ = none ∧
    (pairRouted.recordOf ⟨2, 1⟩ = some rec2 ∧ (⟨2, 1⟩ : Handle) ∈ pairRouted.ou.routes[(15 : Fin 16)].source.handles ∧
      ∀ o' : Fin 16, o' < 15 → (⟨2, 1⟩ : Handle) ∉ pairRouted.ou.routes[o'].source.handles) ∧
    (pairRouted.recordOf ⟨255, 0⟩ = some rec255 ∧ ∀ o : Fin 16, (⟨255, 0⟩ : Handle) ∉ pairRouted.ou.routes[o].source.handles) :=
  ⟨ready_table 7, by decide +kernel, ⟨by decide +kernel, by decide +kernel, by decide +kernel⟩, by decide +kernel, by decide +kernel⟩

/-- A record of every kind and of every state of RUN, and a PARKED one. -/
theorem witness_QueryBody : table.ready .run 7 ∧
    [table.recordOf ⟨0, 1⟩, table.recordOf ⟨2, 1⟩, table.recordOf ⟨3, 1⟩, table.recordOf ⟨7, 1⟩] =
      [some rec0, some rec2, some rec3, some rec7] ∧
    outage.ready .recovered 7 ∧ outage.recordOf ⟨5, 1⟩ = some (mk .cadence 300 200 (.parked .running .b 100)) :=
  ⟨ready_table 7, by decide +kernel,
    ready_of_quiet (quiet_put (quiet_put (quiet_put (quiet_partIn _ _) _ _ _ rfl) _ _ _ rfl) _ _ _ rfl) rfl rfl (by decide) rfl rfl 7,
    by decide +kernel⟩

theorem witness_FindScans : table.ready .run 7 ∧ 256 < (257#16).toNat ∧ (256#16).toNat ≤ 256 := ⟨ready_table 7, by decide, by decide⟩

/-- On a CADENCE record every item but *clear miss*, and on a SUPERVISE record every item but Period B and Repeat count; a Priority of 8,
a mode of 2 and a bit 9 fail the BAD_FIELD tests, and SAFE on a CADENCE record fails the BAD_KIND test. -/
theorem witness_ModifyStages : table.ready .run 7 ∧ table.recordOf ⟨8, 1⟩ = some rec8 ∧ table.recordOf ⟨255, 0⟩ = some rec255 ∧
    (let m : ModifyBody := ⟨0x1DF, 7, 3, 0, 1, 9, 0xFFFFFF, 1, 0, 0⟩;
      modifyFields m rec8.kind ∧ modifyKinds m rec8.kind ∧ m.mode = 0) ∧
    (let m : ModifyBody := ⟨0x7F, 0, 0, 2, 0, 9, 1, 0, 0, 0⟩;
      modifyFields m rec255.kind ∧ modifyKinds m rec255.kind ∧ m.mode = 0) ∧
    (let m : ModifyBody := ⟨0, 8, 4, 3, 2, 0, 0, 0, 0, 9⟩;
      modifyFields m rec255.kind ∧ ¬ modifyTimed m) ∧
    (¬ modifyFields ⟨1, 8, 0, 0, 0, 0, 0, 0, 0, 0⟩ rec8.kind ∧ ¬ modifyFields ⟨64, 0, 0, 0, 0, 0, 1, 0, 0, 2⟩ rec8.kind ∧
      ¬ modifyFields ⟨512, 0, 0, 0, 0, 0, 0, 0, 0, 0⟩ rec8.kind) ∧
    (modifyFields ⟨4, 0, 0, 1, 0, 0, 0, 0, 0, 0⟩ rec8.kind ∧ ¬ modifyKinds ⟨4, 0, 0, 1, 0, 0, 0, 0, 0, 0⟩ rec8.kind) :=
  ⟨ready_table 7, by decide +kernel, by decide +kernel, by decide +kernel, by decide +kernel, by decide +kernel,
    ⟨by decide +kernel, by decide +kernel, by decide +kernel⟩, by decide +kernel⟩

/-- A PAUSED record, an IDLE one, elapsed 400 in phase A of 8.1 against a Period A of 401 and of 400, and elapsed 100 in phase B of 2.1
against 101 and 100. -/
theorem witness_ModifyImmediate : table.ready .run 7 ∧
    (let m : ModifyBody := ⟨0x1C0, 0, 0, 0, 0, 0, 401, 101, 1, 1⟩;
      modifyFields m .cadence ∧ modifyKinds m .cadence ∧ modifyTimed m ∧ m.mode = 1) ∧
    (table.recordOf ⟨6, 1⟩ = some rec6 ∧ rec6.timing = .paused .running .b 150) ∧
    (table.recordOf ⟨0, 1⟩ = some rec0 ∧ rec0.timing = .idle ∧ modifyFields ⟨64, 0, 0, 0, 0, 0, 1, 0, 0, 1⟩ rec0.kind) ∧
    (table.recordOf ⟨8, 1⟩ = some rec8 ∧ rec8.timing = .active .running .a 9600 10100 ∧ rec8.kind = .cadence ∧
      table.td.now - 9600 < ticks 401 ∧ ticks 400 ≤ table.td.now - 9600) ∧
    (table.recordOf ⟨2, 1⟩ = some rec2 ∧ rec2.timing = .active .running .b 9900 10200 ∧
      table.td.now - 9900 < ticks 101 ∧ ticks 100 ≤ table.td.now - 9900) :=
  ⟨ready_table 7, by decide +kernel, by decide +kernel, by decide +kernel, by decide +kernel, by decide +kernel⟩

/-- The values 3 and 4; the first record that is not IDLE stands in slot 1, after an IDLE one; and no record stands. -/
theorem witness_SetTickDecided : table.ready .run 7 ∧ (partIn .run 5).ready .run 7 ∧ 3 < (4 : Byte).toNat ∧ (3 : Byte).toNat ≤ 3 ∧
    (table.recordAt 1 = some rec1 ∧ rec1.timing ≠ .idle ∧
      ∀ (j : Fin 256) (r' : Record), j < 1 → table.recordAt j = some r' → r'.timing = .idle) ∧
    (TickPeriod.code .ms10 = 3 ∧ ∀ (j : Fin 256) (r : Record), (partIn .run 5).recordAt j = some r → r.timing = .idle) := by
  refine ⟨ready_table 7, ready_partIn _ _ (by decide) 7, by decide, by decide, ⟨by decide +kernel, by decide, ?_⟩, rfl, ?_⟩
  · intro j r' hj h
    have h0 : j = 0 := by omega
    subst h0
    have e : table.recordAt 0 = some rec0 := by decide +kernel
    rw [e] at h
    cases h
    rfl
  · intro j r h
    simp [recordAt_partIn] at h

/-- The hold counter one tick short of its limit and at it. -/
theorem witness_TickCounts : table.steady .run ∧ State.reset.steady .loading ∧ (partIn .recovered 5).steady .recovered ∧
    (let s (n : Nat) : State := { partIn .parked 5 with td := { (partIn .parked 5).td with holdCounter := n } };
      (s 1073741822).steady .parked ∧ (s 1073741823).steady .parked) :=
  ⟨⟨rfl, rfl, fun _ => quiet_table⟩, ⟨rfl, rfl, (fun h => nomatch h)⟩, steady_partIn _ _,
    ⟨rfl, rfl, fun _ => quiet_partIn .parked 5⟩, rfl, rfl, fun _ => quiet_partIn .parked 5⟩

theorem witness_OneshotExpiry : (put 4 1 (mk .oneshot 10 0 (inA 0 10)) (partIn .run 10)).firstDue 4 ∧
    (put 4 1 (mk .oneshot 10 0 (inA 0 10)) (partIn .run 10)).recordAt 4 = some (mk .oneshot 10 0 (inA 0 10)) ∧
    (mk .oneshot 10 0 (inA 0 10)).timing = .active .running .a 0 10 :=
  ⟨firstDue_put _ _ _ _ rfl, by simp [recordAt_put], rfl⟩

theorem witness_PhaseAExpiry :
    ((put 4 1 (mk .cadence 10 5 (inA 0 10)) (partIn .run 10)).firstDue 4 ∧
      (put 4 1 (mk .cadence 10 5 (inA 0 10)) (partIn .run 10)).recordAt 4 = some (mk .cadence 10 5 (inA 0 10))) ∧
    ((put 4 1 (mk .window 10 5 (.active .lapsed .a 0 10)) (partIn .run 10)).firstDue 4 ∧
      (put 4 1 (mk .window 10 5 (.active .lapsed .a 0 10)) (partIn .run 10)).recordAt 4 =
        some (mk .window 10 5 (.active .lapsed .a 0 10))) :=
  ⟨⟨firstDue_put _ _ _ _ rfl, by simp [recordAt_put]⟩, firstDue_put _ _ _ _ rfl, by simp [recordAt_put]⟩

/-- Cycles left absent, 1, 2 and 65,535. -/
theorem witness_CadenceCycleEnd (left : Option (BitVec 16)) (_ : left ∈ [none, some 1, some 2, some 0xFFFF]) :
    let r := { mk .cadence 10 5 (inB 5 10) with cyclesLeft := left }
    (put 4 1 r (partIn .run 10)).firstDue 4 ∧ (put 4 1 r (partIn .run 10)).recordAt 4 = some r ∧ r.kind = .cadence ∧
      r.timing = .active .running .b 5 10 ∧ r.cyclesLeft = left ∧ 1 < (2#16).toNat ∧ 1 < (0xFFFF#16).toNat :=
  ⟨firstDue_put _ _ _ _ rfl, by simp [recordAt_put], rfl, rfl, rfl, by decide, by decide⟩

/-- A miss at a count of 255 in phase A of a SUPERVISE record, and of 254 in phase B of a WINDOW record. -/
theorem witness_SupervisionMiss :
    (let r := { mk .supervise 10 0 (.active .lapsed .a 0 10) with missCount := 255 };
      (put 4 1 r (partIn .run 10)).firstDue 4 ∧ (put 4 1 r (partIn .run 10)).recordAt 4 = some r) ∧
    (let r := { mk .window 10 5 (inB 5 10) with missCount := 254, consequence := .safeAndReset };
      (put 4 1 r (partIn .run 10)).firstDue 4 ∧ (put 4 1 r (partIn .run 10)).recordAt 4 = some r) :=
  ⟨⟨firstDue_put _ _ _ _ rfl, by simp [recordAt_put]⟩, firstDue_put _ _ _ _ rfl, by simp [recordAt_put]⟩

theorem witness_ConsequenceApplied : table.ou.safe = none ∧
    ({ table with ou := { table.ou with safe := some .host } } : State).ou.safe ≠ none := ⟨rfl, by simp⟩

/-- Three records due at once, and one that is due a tick later; and a command that meets them. -/
theorem witness_OutstandingExpiriesTaken :
    let s := { equalDues with td := { equalDues.td with now := 20000 } }
    s.recordsWf ∧ s.pr.power = .run ∧ s.dueNow = [9, 4, 6] ∧ s.supply = true ∧
      (Instr.nop 1 ≠ .expiry ∧ (∀ x y : Bool, Instr.nop 1 ≠ .powerOn x y) ∧ Instr.nop 1 ≠ .storeContentsLost) :=
  ⟨by decide +kernel, rfl, by decide +kernel, rfl, by decide, nofun, by decide⟩

/-- Two different distances, one distance with two Priorities, and one with one Priority and two slots. -/
theorem witness_DueOrderSorted : equalDues.dueOrder.map (fun i => (equalDues.dueAt i, equalDues.priorityAt i)) =
    [(some 20000, 5), (some 20000, 2), (some 20000, 2), (some 20001, 7)] := by decide +kernel

theorem witness_StartDecided : table.ready .run 7 ∧ (table.recordOf ⟨0, 1⟩ = some rec0 ∧ rec0.timing = .idle) ∧
    (table.recordOf ⟨6, 1⟩ = some rec6 ∧ rec6.timing ≠ .idle) := ⟨ready_table 7, by decide +kernel, by decide +kernel⟩

theorem witness_StopDecided : table.ready .run 7 ∧ (table.recordOf ⟨0, 1⟩ = some rec0 ∧ rec0.timing = .idle) ∧
    (table.recordOf ⟨2, 1⟩ = some rec2 ∧ rec2.timing.state = .running) ∧
    (table.recordOf ⟨7, 1⟩ = some rec7 ∧ rec7.timing.state = .paused) ∧
    (table.recordOf ⟨3, 1⟩ = some rec3 ∧ rec3.timing.state = .lapsed) :=
  ⟨ready_table 7, by decide +kernel, by decide +kernel, by decide +kernel, by decide +kernel⟩

theorem witness_RestartDecided : table.ready .run 7 ∧ (table.recordOf ⟨3, 1⟩ = some rec3 ∧ rec3.timing.state = .lapsed) ∧
    (table.recordOf ⟨6, 1⟩ = some rec6 ∧ rec6.timing.state = .paused) := ⟨ready_table 7, by decide +kernel, by decide +kernel⟩

theorem witness_PauseAndContinueDecided : table.ready .run 7 ∧
    (table.recordOf ⟨5, 1⟩ = some rec5 ∧ rec5.timing = .active .lapsed .b 9800 10100) ∧
    (table.recordOf ⟨0, 1⟩ = some rec0 ∧ rec0.timing.state = .idle) ∧
    (table.recordOf ⟨7, 1⟩ = some rec7 ∧ rec7.timing = .paused .lapsed .a 30) :=
  ⟨ready_table 7, by decide +kernel, by decide +kernel, by decide +kernel⟩

/-- A SUPERVISE record RUNNING and one LAPSED with a Miss count of 255; a WINDOW record LAPSED in phase B and one in phase A. -/
theorem witness_RenewJudged : table.ready .run 7 ∧
    (table.recordOf ⟨9, 1⟩ = some rec9 ∧ rec9.timing = .active .running .a 9600 10100) ∧
    (table.recordOf ⟨3, 1⟩ = some rec3 ∧ rec3.timing = .active .lapsed .a 9700 10200) ∧
    (table.recordOf ⟨5, 1⟩ = some rec5 ∧ rec5.timing = .active .lapsed .b 9800 10100) ∧
    (table.recordOf ⟨4, 1⟩ = some rec4 ∧ rec4.timing = .active .running .a 9700 10200) :=
  ⟨ready_table 7, by decide +kernel, by decide +kernel, by decide +kernel, by decide +kernel⟩

theorem witness_RenewRefused : table.ready .run 7 ∧ table.recordOf ⟨9, 0⟩ = none ∧ table.recordOf ⟨1, 1⟩ = some rec1 ∧
    (table.recordOf ⟨255, 0⟩ = some rec255 ∧ rec255.timing.state = .idle) ∧
    (table.recordOf ⟨7, 1⟩ = some rec7 ∧ rec7.timing.state = .paused) :=
  ⟨ready_table 7, by decide +kernel, by decide +kernel, by decide +kernel, by decide +kernel⟩

/-- Groups 15 and 16; a record that has a group and one that has none. -/
theorem witness_JoinAndLeaveDecided : table.ready .run 7 ∧ table.recordOf ⟨0, 0⟩ = none ∧ table.recordOf ⟨0, 1⟩ = some rec0 ∧
    table.recordOf ⟨1, 1⟩ = some rec1 ∧ 16 ≤ (16 : Byte).toNat ∧ (15 : Fin 16).val = (15 : Byte).toNat :=
  ⟨ready_table 7, by decide +kernel, by decide +kernel, by decide +kernel, by decide, by decide⟩

theorem witness_GroupRequestsActOnMembers : table.ready .run 7 ∧ 16 ≤ (16 : Byte).toNat ∧ 2 ≤ (2 : Byte).toNat ∧
    (15 : Fin 16).val = (15 : Byte).toNat ∧ (table.recordAt 0).any (fun r => r.group == some 15) = true ∧
    (table.recordAt 1).any (fun r => r.group == some 15) = false ∧
    (Instr.groupPause 7 15, Instr.pause 7, [RecordState.running, .lapsed]) ∈
      [(Instr.groupStart 7 15 0, Instr.start 7, [RecordState.idle]),
       (Instr.groupPause 7 15, Instr.pause 7, [RecordState.running, .lapsed])] :=
  ⟨ready_table 7, by decide, by decide, by decide, by decide +kernel, by decide +kernel, by simp⟩

/-- Filter width 5 with and without a candidate, filter width 0, and LOADING. -/
theorem witness_SampledLevelFiltered :
    ((filtered none 40).steady .hold ∧ (filtered none 40).lu.lines[(2 : Fin 8)].config.filterWidth ≠ 0 ∧
      (filtered none 40).lu.lines[(2 : Fin 8)].candidate = none ∧ true ≠ (filtered none 40).lu.lines[(2 : Fin 8)].level) ∧
    ((filtered (some ⟨true, 40⟩) 41).steady .hold ∧ (filtered (some ⟨true, 40⟩) 41).lu.lines[(2 : Fin 8)].candidate ≠ none) ∧
    table.lu.lines[(7 : Fin 8)].config.filterWidth = 0 ∧ State.reset.steady .loading :=
  ⟨⟨⟨rfl, rfl, fun _ => quiet_partIn .hold 0⟩, by decide +kernel, by decide +kernel, by decide +kernel⟩,
    ⟨⟨rfl, rfl, fun _ => quiet_partIn .hold 0⟩, by decide +kernel⟩, by decide +kernel, rfl, rfl, (fun h => nomatch h)⟩

/-- Line 7 falls, with one record bound to it. -/
def falling (p : PowerState) (e : EdgeSelect) : State :=
  let s := put 6 1 rec6 (partIn p 10000)
  { s with lu := { s.lu with lines := s.lu.lines.set 7 ⟨⟨e, 15⟩, true, some ⟨false, 0⟩⟩ } }

theorem witness_CandidateAccepted :
    ((falling .run .rise).steady .run ∧ (falling .run .rise).lu.lines[(7 : Fin 8)].config.edgeSelect = .rise ∧
      (falling .run .rise).lu.lines[(7 : Fin 8)].candidate = some ⟨false, 0⟩) ∧
    ((falling .parked .fall).steady .parked ∧ (falling .parked .fall).lu.lines[(7 : Fin 8)].config.edgeSelect = .fall) ∧
    (let bound (i : Fin 256) (a : Action) : Prop :=
        ∃ r : Record, (falling .run .both).recordAt i = some r ∧ r.trigger = some ⟨7, a⟩;
      (falling .run .both).steady .run ∧ (falling .run .both).lu.lines[(7 : Fin 8)].config.edgeSelect = .both ∧
      bound 6 .restart ∧ (∀ (j : Fin 256) (b : Action), bound j b → j = 6) ∧ ∀ a : Action, ¬ bound 5 a) ∧
    (bound4.steady .run ∧ bound4.lu.lines[(4 : Fin 8)].config.edgeSelect = .both ∧
      bound4.lu.lines[(4 : Fin 8)].candidate = some ⟨false, 0⟩ ∧ bound4.recordsWf ∧
      [bound4.recordAt 3, bound4.recordAt 6, bound4.recordAt 10].map (fun r => r.bind (·.trigger)) =
        [some ⟨4, .renew⟩, some ⟨4, .renew⟩, some ⟨4, .start⟩]) := by
  have hq (p : PowerState) : Quiet (put 6 1 rec6 (partIn p 10000)) := quiet_put (quiet_partIn _ _) _ _ _ rfl
  have hb (j : Fin 256) (b : Action) (h : ∃ r : Record, (falling .run .both).recordAt j = some r ∧ r.trigger = some ⟨7, b⟩) : j = 6 := by
    obtain ⟨r, hr, -⟩ := h
    by_contra hj
    rw [show (falling .run .both).recordAt j = (put 6 1 rec6 (partIn .run 10000)).recordAt j from rfl, recordAt_put,
      if_neg (Ne.symm hj), recordAt_partIn] at hr
    cases hr
  refine ⟨⟨⟨rfl, rfl, fun _ => hq .run⟩, by decide +kernel, by decide +kernel⟩, ⟨⟨rfl, rfl, fun _ => hq .parked⟩, by decide +kernel⟩,
    ⟨⟨rfl, rfl, fun _ => hq .run⟩, by decide +kernel, ⟨rec6, by decide +kernel, rfl⟩, hb, fun a h => absurd (hb 5 a h) (by decide)⟩,
    ⟨rfl, rfl, fun _ => ?_⟩, by decide +kernel, by decide +kernel, by decide +kernel, by decide +kernel⟩
  show Quiet boundSlots
  unfold boundSlots
  iterate 5 refine quiet_put ?_ _ _ _ (by decide +kernel)
  exact quiet_partIn _ _

theorem witness_SetLineDecided : table.ready .run 7 ∧ 8 ≤ (8 : Byte).toNat ∧ 4 ≤ (4 : Byte).toNat ∧ 16 ≤ (16 : Byte).toNat ∧
    (7 : Fin 8).val = (7 : Byte).toNat ∧ (15 : Fin 16).val = (15 : Byte).toNat ∧
    (3 : Byte) = (match EdgeSelect.both with
      | .none => 0
      | .rise => 1
      | .fall => 2
      | .both => 3) := ⟨ready_table 7, by decide, by decide, by decide, by decide, by decide, by decide⟩

theorem witness_BindAndUnbindDecided : table.ready .run 7 ∧ table.recordOf ⟨6, 2⟩ = none ∧ table.recordOf ⟨6, 1⟩ = some rec6 ∧
    table.recordOf ⟨9, 1⟩ = some rec9 ∧ 8 ≤ (8 : Byte).toNat ∧ 3 ≤ (3 : Byte).toNat ∧ (7 : Fin 8).val = (7 : Byte).toNat :=
  ⟨ready_table 7, by decide +kernel, by decide +kernel, by decide +kernel, by decide, by decide, by decide⟩

/-- A PAIR source on output 15 with NOR, a RECORD source and a STATIC one; and output 16, safe level 2, level 2 and operator 4. -/
theorem witness_RouteDecided : pairRouted.ready .run 7 ∧ (pairRouted.recordOf ⟨1, 1⟩).isSome = true ∧
    (pairRouted.recordOf ⟨2, 1⟩).isSome = true ∧ (15 : Fin 16).val = (15 : Byte).toNat ∧
    ((2 : Byte) = 2 ∧ Source.pair ⟨1, 1⟩ ⟨2, 1⟩ .nor = .pair ⟨1, 1⟩ ⟨2, 1⟩ .nor ∧ (3 : Byte) = (match PairOp.nor with
      | .and => 0
      | .or => 1
      | .nand => 2
      | .nor => 3)) ∧
    (16 ≤ (16 : Byte).toNat ∧ 2 ≤ (2 : Byte).toNat ∧ 4 ≤ (4 : Byte).toNat) :=
  ⟨ready_table 7, by decide +kernel, by decide +kernel, by decide, by decide, by decide, by decide, by decide⟩

theorem witness_OutputsDriven : table.recordOf ⟨9, 1⟩ = some rec9 ∧ table.recordOf ⟨4, 1⟩ = some rec4 ∧ rec9.signal = true ∧
    rec4.signal = false ∧ table.pr.power = .run ∧ table.ou.safe = none ∧ State.reset.pr.power = .loading := by decide +kernel

/-- The safe state clear; set with 3.1 blocking and the IDLE, ONESHOT and CADENCE records below it not; and set with none blocking. -/
theorem witness_SafeAndReleaseDecided :
    let held : State := { table with ou := { table.ou with safe := some .host } }
    let free : State := { partIn .run 5 with ou := { (partIn .run 5).ou with safe := some (.handle ⟨3, 1⟩) } }
    let blocks (s : State) (i : Fin 256) : Prop :=
      ∃ r : Record, s.recordAt i = some r ∧ (r.consequence = .safe ∨ r.consequence = .safeAndReset) ∧
        ((∃ (phase : Phase) (start due : Time), r.timing = .active .lapsed phase start due) ∨
          ∃ (phase : Phase) (remaining : Time),
            r.timing = .paused .lapsed phase remaining ∨ r.timing = .parked .lapsed phase remaining)
    (table.ready .run 7 ∧ table.ou.safe = none) ∧
    (held.ready .run 7 ∧ held.ou.safe = some .host ∧ blocks held 3 ∧ ∀ j : Fin 256, j < 3 → ¬ blocks held j) ∧
    (free.ready .run 7 ∧ free.ou.safe = some (.handle ⟨3, 1⟩) ∧ ∀ i : Fin 256, ¬ blocks free i) := by
  refine ⟨⟨ready_table 7, rfl⟩, ⟨ready_table 7, rfl, ⟨rec3, by decide +kernel, by decide, .inl ⟨.a, 9700, 10200, rfl⟩⟩, ?_⟩,
    ready_partIn .run 5 (by decide) 7, rfl, ?_⟩
  · rintro j hj ⟨r, hr, hc, -⟩
    have h : ∀ j : Fin 256, j < 3 → ((table.recordAt j).all fun r => r.consequence == .notify) = true := by decide +kernel
    have h' := h j hj
    rw [show table.recordAt j = some r from hr] at h'
    simp only [Option.all_some, beq_iff_eq] at h'
    rw [h'] at hc
    revert hc
    decide
  · rintro i ⟨r, hr, -⟩
    cases (recordAt_partIn .run 5 i).symm.trans hr

/-- An entry of the handle between two others, at a count of 255, and no entry of it; the same of a system kind. -/
theorem witness_PostingsMergeOrJoin :
    let e : Entry := ⟨.record ⟨9, 1⟩ 0 6 8, 255, 1800, 1800⟩
    let f : Entry := ⟨.system (.safeEntered .host), 1, 1800, 1800⟩
    let g : Entry := ⟨.record ⟨9, 2⟩ 0 6 8, 1, 1800, 1800⟩
    (∀ x ∈ [g] ++ [f], x.handle? ≠ some ⟨9, 1⟩) ∧ e.content = .record ⟨9, 1⟩ 0 6 8 ∧
    (SystemInfo.safeEntered .host).kind = (SystemInfo.safeEntered (.handle ⟨9, 1⟩)).kind ∧
    (∀ x ∈ [g] ++ [e], ∀ info : SystemInfo, x.content = .system info → info.kind ≠ .safeEntered) := by
  refine ⟨by decide, rfl, rfl, ?_⟩
  intro x hx info h
  simp only [List.cons_append, List.nil_append, List.mem_cons, List.not_mem_nil, or_false] at hx
  rcases hx with rfl | rfl <;> cases h

/-- The empty queue, and the queue of 08's example, whose youngest entry has the highest priority. -/
theorem witness_FetchTakesHighest : ((partIn .hold 5).ready .hold 7 ∧ (partIn .hold 5).nq.entries = []) ∧
    (queued.ready .recovered 7 ∧ queued.nq.entries =
      [⟨.record ⟨4, 2⟩ 0 7 2, 3, 1000, 2000⟩, ⟨.record ⟨12, 1⟩ 0 3 4, 1, 1200, 1200⟩, ⟨.record ⟨9, 1⟩ 0 6 0x28, 2, 1800, 2005⟩] ++
        ⟨.system (.safeEntered (.handle ⟨9, 1⟩)), 1, 1800, 1800⟩ :: [] ∧
      ∀ x ∈ queued.nq.entries.take 3, x.priority < (⟨.system (.safeEntered (.handle ⟨9, 1⟩)), 1, 1800, 1800⟩ : Entry).priority) :=
  ⟨⟨ready_partIn .hold 5 (by decide) 7, rfl⟩, ready_partIn .recovered 2010 (by decide) 7, rfl, by decide⟩

/-- The thresholds 8 and 9, in RUN, in RECOVERED and in HOLD. -/
theorem witness_AttnAndItsThreshold : table.ready .run 7 ∧ (partIn .recovered 5).ready .recovered 7 ∧ (partIn .hold 5).ready .hold 7 ∧
    8 < (9 : Byte).toNat ∧ (8 : Fin 9).val = (8 : Byte).toNat :=
  ⟨ready_table 7, ready_partIn _ _ (by decide) 7, ready_partIn _ _ (by decide) 7, by decide, by decide⟩

/-- The targets without a valid bank, with one, and after the greatest generation. -/
theorem witness_isTarget : table.pr.isTarget 0 1 ∧ checkpointed.pr.isTarget 1 42 ∧
    ({ checkpointed.pr with banks := checkpointed.pr.banks.set 0 (some ⟨4294967295, .holdSave⟩) } : PowerUnit).isTarget 1 1 := by
  refine ⟨.inl (by decide +kernel), .inr ⟨0, ⟨41, .checkpoint⟩, by decide, by decide +kernel, ?_, by decide⟩,
    .inr ⟨0, ⟨4294967295, .holdSave⟩, by decide, by decide +kernel, ?_, by decide⟩⟩
  · intro y hy
    cases hy
  · intro y hy
    cases hy

/-- The part with a checkpoint in flight. -/
def writing : State := after (.checkpoint 1) checkpointed

theorem checkpointed_ready (seq : Byte) : checkpointed.ready .run seq :=
  ready_of_quiet (quiet_partIn .run 100000) rfl rfl (by decide) rfl rfl seq

theorem witness_CheckpointTakenAndCompleted : checkpointed.ready .run 7 ∧ checkpointed.pr.checkpoint = none ∧
    checkpointed.pr.isTarget 1 42 ∧
    (writing.ready .run 7 ∧ writing.steady .run ∧ writing.pr.checkpoint.isSome = true) :=
  ⟨checkpointed_ready 7, rfl, witness_isTarget.2.1, by decide +kernel, by decide +kernel, by decide +kernel⟩

theorem witness_PwarnAssertedHolds : ((partIn .recovered 5).steady .recovered) ∧
    (writing.steady .run ∧ writing.pr.checkpoint.isSome = true) ∧
    (checkpointed.steady .run ∧ checkpointed.pr.checkpoint = none ∧ checkpointed.pr.isTarget 1 42) :=
  ⟨steady_partIn _ _, ⟨by decide +kernel, by decide +kernel⟩, (checkpointed_ready 7).1, rfl, witness_isTarget.2.1⟩

/-- A save in flight with PWARN asserted, and with PWARN withdrawn. -/
theorem witness_HoldSaveCompletes :
    let s (pwarn : Bool) : State := { partIn .hold 5 with pr := { (partIn .hold 5).pr with save := some ⟨1, 42⟩, pwarn := pwarn } }
    (s true).steady .hold ∧ (s false).steady .hold ∧ (s true).pr.save = some ⟨1, 42⟩ ∧ (s true).pr.pwarn = true ∧
      (s false).pr.pwarn = false :=
  ⟨⟨rfl, rfl, fun _ => quiet_partIn .hold 5⟩, ⟨rfl, rfl, fun _ => quiet_partIn .hold 5⟩, rfl, rfl, rfl⟩

/-- A STRETCH record and a CATCHUP record one tick past the new Now; a part in which every record is STRETCH. -/
def parkedNear : State :=
  put 4 1 { mk .cadence 600 400 (inA 99901 104501) with holdPolicy := .catchup } { brownout with slots := parked2.slots }

theorem witness_BrownoutReconciles : ((partIn .run 5).steady .run) ∧ parkedNear.steady .parked ∧
    parkedNear.recordAt 2 = some (mk .supervise 3000 0 (inA 69000 72000)) ∧ parkedNear.dueAt 255 = none ∧
    (let newNow := parkedNear.td.now + BitVec.ofNat 32 parkedNear.td.holdCounter;
      parkedNear.dueAt 4 = some 104501 ∧ (104501 : Time) - newNow ≠ 0 ∧ ((104501 : Time) - newNow).msb = false) ∧
    (brownout.steady .parked ∧ brownout.recordsWf ∧ brownout.duesWf ∧ brownout.dueOrder = [7, 3] ∧
      [brownout.recordAt 7, brownout.recordAt 3].map (·.map (·.holdPolicy)) = [some .catchup, some .stretch] ∧
      [brownout.dueAt 7, brownout.dueAt 3] = [some 100200, some 100400]) ∧
    parked2.steady .parked ∧
    ∀ (i : Fin 256) (r : Record), parked2.recordAt i = some r → parked2.dueAt i ≠ none → r.holdPolicy = .stretch := by
  refine ⟨steady_partIn _ _, ⟨rfl, rfl, (fun h => nomatch h)⟩, by decide +kernel, by decide +kernel, by decide +kernel,
    ⟨⟨rfl, rfl, (fun h => nomatch h)⟩, by decide +kernel, by decide +kernel, by decide +kernel, by decide +kernel, by decide +kernel⟩,
    ⟨rfl, rfl, (fun h => nomatch h)⟩, ?_⟩
  intro i r h _
  rw [show parked2.recordAt i = (put 2 4 (mk .supervise 3000 0 (inA 69000 72000)) (partIn .parked 70000)).recordAt i from rfl,
    recordAt_put, recordAt_partIn] at h
  split_ifs at h
  cases h
  rfl

/-- The outages 1,073,741,823, one above it, and UNKNOWN; PARKED records under both policies. -/
theorem witness_ResumeReconciles : outage.ready .recovered 7 ∧ outage.pr.pwarn = false ∧
    (1073741824#32 ≠ 0xFFFFFFFF#32 ∧ 1073741823 < (1073741824#32).toNat) ∧ (1073741823#32).toNat ≤ 1073741823 ∧
    (outage.recordAt 5 = some (mk .cadence 300 200 (.parked .running .b 100)) ∧ outage.parkedAt 9 = none) ∧
    (let newNow := outage.td.now + 1499#32;
      (outage.recordAt 1).map (·.holdPolicy) = some .catchup ∧ outage.parkedAt 1 = some 1500 ∧
      outage.td.now + 1500 - newNow ≠ 0 ∧ (outage.td.now + 1500 - newNow).msb = false) ∧
    (outage.recordsWf ∧ outage.duesWf ∧ outage.ordered outage.parkedAt = [5, 1]) :=
  ⟨ready_of_quiet (quiet_put (quiet_put (quiet_put (quiet_partIn _ _) _ _ _ rfl) _ _ _ rfl) _ _ _ rfl) rfl rfl (by decide) rfl rfl 7,
    rfl, by decide, by decide, by decide +kernel, by decide +kernel, by decide +kernel⟩

/-- A hold that ends at the record's Due, which is its first miss, and one of the greatest length with the shortest period. -/
theorem witness_CatchupCountsEveryMiss :
    let r := { mk .supervise 1 0 (inA 4 5) with holdPolicy := .catchup, missCount := 255 }
    let s (n : Nat) : State :=
      { put 0 1 r (partIn .parked 4) with td := { (put 0 1 r (partIn .parked 4)).td with holdCounter := n } }
    (∀ n, (s n).steady .parked) ∧ (s 1).recordAt 0 = some r ∧ (s 1073741823).td.holdCounter ≤ 1073741823 ∧
      (5 - (s 1).td.now).toNat = (s 1).td.holdCounter ∧ r.periodA ≠ 0 ∧ r.timing = .active .running .a 4 5 :=
  ⟨fun _ => ⟨rfl, rfl, (fun h => nomatch h)⟩, by decide +kernel, by decide, by decide, by decide, rfl⟩

theorem witness_PowerEventsTaken : table.steady .run ∧ (partIn .recovered 5).steady .recovered ∧ State.reset.steady .loading ∧
    ({ table with supply := false } : State).supply = false ∧ ((∀ x y : Bool, Instr.tick ≠ .powerOn x y) ∧ Instr.tick ≠ .storeContentsLost) :=
  ⟨⟨rfl, rfl, fun _ => quiet_table⟩, steady_partIn _ _, ⟨rfl, rfl, (fun h => nomatch h)⟩, rfl, by simp, by decide⟩

/-- LOADING with no valid bank, with PWARN withdrawn and asserted, and with RSTN asserted; LOADING with an older and a newer image. -/
theorem witness_LoadingCompletes (old new : Image) (ho : old.generation = 6) (hn : new.generation = 7) :
    (State.reset.steady .loading ∧ State.reset.pr.rstn = false ∧ (∀ b : Fin 2, State.reset.pr.store[b].judge = none) ∧
      State.reset.pr.pwarn = false) ∧
    ({ State.reset with pr := { State.reset.pr with pwarn := true, rstn := true } } : State).steady .loading ∧
    (let store : Vector Bank 2 := #v[⟨true, some ⟨old, imageCrc old⟩⟩, ⟨true, some ⟨new, imageCrc new⟩⟩];
      let s : State := { State.reset with pr := { State.reset.pr with store := store } }
      s.steady .loading ∧ s.pr.store[(1 : Fin 2)] = ⟨true, some ⟨new, imageCrc new⟩⟩ ∧
      ∀ y, s.pr.store[(0 : Fin 2)].judge = some y → y.generation < new.generation) := by
  refine ⟨⟨⟨rfl, rfl, (fun h => nomatch h)⟩, rfl, by decide, rfl⟩, ⟨rfl, rfl, (fun h => nomatch h)⟩, ⟨rfl, rfl, (fun h => nomatch h)⟩, rfl, ?_⟩
  intro y hy
  cases (Bank.judge_written old).symm.trans hy
  show old.generation < new.generation
  rw [ho, hn]
  decide

theorem witness_DiscardAndClearEmptyThePart :
    ((partIn .recovered 5).ready .recovered 7 ∧ (partIn .recovered 5).pr.checkpoint = none ∧ (partIn .recovered 5).pr.pwarn = false) ∧
    (table.ready .run 7 ∧ table.pr.checkpoint = none) ∧ (writing.ready .run 7 ∧ writing.pr.checkpoint.isSome = true) :=
  ⟨⟨ready_partIn _ _ (by decide) 7, rfl, rfl⟩, ⟨ready_table 7, rfl⟩, by decide +kernel, by decide +kernel⟩

/-- The part in RUN with a record of every kind and state meets every invariant, and so do the part in HOLD and the part in RECOVERED;
a step from there answers next. -/
theorem witness_RecordsKept_DuesKept_ModesKept_QueueKept_HandlesKept : table.modesWf ∧ table.recordsWf ∧ table.duesWf ∧ table.queueWf ∧ table.handlesWf ∧
    (outage.modesWf ∧ outage.recordsWf ∧ outage.duesWf ∧ outage.queueWf ∧ outage.handlesWf) ∧
    (queued.queueWf ∧ pairRouted.handlesWf) ∧ ∃ t, step table = .next t :=
  ⟨by decide +kernel, by decide +kernel, by decide +kernel, by decide +kernel, by decide +kernel, by decide +kernel, by decide +kernel,
    _, rfl⟩

/-- A checkpoint in flight into bank 1 beside a valid bank 0. -/
theorem witness_BanksKept (img : Image) (hg : img.generation = 41) (ho : img.origin = .checkpoint) :
    let banked : Vector Bank 2 := #v[⟨true, some ⟨img, imageCrc img⟩⟩, ⟨false, none⟩]
    let snapshot : Image := { img with generation := 42 }
    let s : State := { checkpointed with pr := { checkpointed.pr with store := banked, checkpoint := some ⟨1, 42, snapshot⟩ } }
    s.modesWf ∧ s.banksWf ∧ ∃ t, step s = .next t := by
  have hj : Bank.judge ⟨true, some ⟨img, imageCrc img⟩⟩ = some ⟨41, .checkpoint⟩ := by rw [Bank.judge_written, hg, ho]
  refine ⟨⟨fun _ => rfl, nofun, nofun, fun _ => ⟨rfl, rfl, fun _ => rfl⟩, nofun, nofun, fun _ _ i => ?_⟩, ⟨.inr ?_, fun _ _ b => ?_,
    fun c hc => ?_, nofun⟩, _, rfl⟩
  · show (partIn .run 100000).parkedAt i = none
    simp [State.parkedAt, recordAt_partIn]
  · have h0 : Bank.generation? ⟨true, some ⟨img, imageCrc img⟩⟩ = some 41 := by simp [Bank.generation?, hj]
    intro e
    cases h0.symm.trans e
  · fin_cases b
    · exact hj.symm
    · rfl
  · cases hc
    refine ⟨rfl, nofun, rfl, rfl, rfl, ?_⟩
    have h0 : Bank.generation? ⟨true, some ⟨img, imageCrc img⟩⟩ = some 41 := by simp [Bank.generation?, hj]
    intro e
    cases h0.symm.trans e

end Sys2Proof.Tests
end

-- ==== Time and the due order: the order ====
section
/-! SUPPORT. The due order (R34, R35): which slots it holds, that it holds each once, and its three keys. -/

namespace Sys2Proof.Machine

variable (s : State)

/-! ### The Due of a slot -/

/-- A slot has a Due exactly when its record is RUNNING or LAPSED (R34). -/
theorem State.dueAt_eq_some {i : Fin 256} {due : Time} :
    s.dueAt i = some due ↔ ∃ r run phase start, s.recordAt i = some r ∧ r.timing = .active run phase start due := by
  unfold State.dueAt
  split
  · split <;> simp_all
  · simp_all

theorem State.dueAt_eq_of_slot {s u : State} {i : Fin 256} (h : u.slots[i] = s.slots[i]) : u.dueAt i = s.dueAt i := by
  simp only [State.dueAt, State.recordAt, h]

/-! ### R35's keys -/

/-- The three keys written out. -/
theorem State.precedes_iff (dist : Fin 256 → Option Time) (i j : Fin 256) :
    s.precedes dist i j = true ↔
      ((dist i).getD 0).toNat < ((dist j).getD 0).toNat ∨
      (((dist i).getD 0).toNat = ((dist j).getD 0).toNat ∧
        (s.priorityAt j < s.priorityAt i ∨ (s.priorityAt i = s.priorityAt j ∧ i.val ≤ j.val))) := by
  simp [State.precedes]

theorem State.precedes_total (dist : Fin 256 → Option Time) (i j : Fin 256) :
    s.precedes dist i j = true ∨ s.precedes dist j i = true := by
  rw [s.precedes_iff, s.precedes_iff]
  omega

theorem State.precedes_trans (dist : Fin 256 → Option Time) (i j k : Fin 256) (hij : s.precedes dist i j = true)
    (hjk : s.precedes dist j k = true) : s.precedes dist i k = true := by
  rw [s.precedes_iff] at *
  omega

/-! ### Slots in order -/

theorem State.mem_ordered {dist : Fin 256 → Option Time} {i : Fin 256} : i ∈ s.ordered dist ↔ (dist i).isSome = true := by
  simp [State.ordered]

theorem State.nodup_ordered (dist : Fin 256 → Option Time) : (s.ordered dist).Nodup :=
  (List.perm_insertionSort _ _).nodup_iff.mpr ((List.nodup_finRange 256).filter _)

theorem State.pairwise_ordered (dist : Fin 256 → Option Time) :
    (s.ordered dist).Pairwise fun i j => s.precedes dist i j = true :=
  haveI : Std.Total fun i j => s.precedes dist i j = true := ⟨s.precedes_total dist⟩
  haveI : IsTrans (Fin 256) fun i j => s.precedes dist i j = true := ⟨s.precedes_trans dist⟩
  List.pairwise_insertionSort _ _

/-- The due order holds the slots that have a Due (R34). -/
theorem State.mem_dueOrder {i : Fin 256} : i ∈ s.dueOrder ↔ ∃ due, s.dueAt i = some due := by
  simp [State.dueOrder, s.mem_ordered, State.distanceAt, Option.isSome_iff_exists]

/-- Of two slots in the due order the first has the smaller distance, then the higher Priority, then the lower number (R35). -/
theorem State.pairwise_dueOrder :
    s.dueOrder.Pairwise fun i j => ∀ di dj : Time, s.dueAt i = some di → s.dueAt j = some dj →
      di - s.td.now < dj - s.td.now ∨
      (di - s.td.now = dj - s.td.now ∧
        (s.priorityAt j < s.priorityAt i ∨ (s.priorityAt j = s.priorityAt i ∧ i < j))) := by
  refine ((s.pairwise_ordered s.distanceAt).and (s.nodup_ordered s.distanceAt)).imp ?_
  rintro i j ⟨hkeys, hne⟩ di dj hi hj
  have hval : i.val ≠ j.val := fun e => hne (Fin.ext e)
  simp only [s.precedes_iff, State.distanceAt, hi, hj, Option.map_some, Option.getD_some] at hkeys
  rw [BitVec.lt_def, ← BitVec.toNat_inj, Fin.lt_def]
  omega

/-! ### The records whose due has come -/

theorem State.mem_dueNow {i : Fin 256} : i ∈ s.dueNow ↔ s.dueAt i = some s.td.now := by
  simp only [State.dueNow, List.mem_filter, s.mem_dueOrder, decide_eq_true_eq]
  exact ⟨And.right, fun h => ⟨⟨_, h⟩, h⟩⟩

theorem State.nodup_dueNow : s.dueNow.Nodup := (s.nodup_ordered _).filter _

/-- Of the records whose due has come the one of higher Priority is first, then the one of the lower slot (R39). -/
theorem State.pairwise_dueNow :
    s.dueNow.Pairwise fun i j =>
      s.priorityAt j < s.priorityAt i ∨ (s.priorityAt j = s.priorityAt i ∧ i < j) := by
  refine (s.pairwise_dueOrder.filter _).imp_of_mem fun hi hj h => ?_
  rcases h _ _ (s.mem_dueNow.mp hi) (s.mem_dueNow.mp hj) with h | ⟨-, h⟩
  · exact absurd h (BitVec.lt_irrefl _)
  · exact h

/-- Settles O27, by the sortedness of the insertion sort under R35's keys. -/
theorem dueOrderSorted : Obligations.DueOrderSorted := by
  intro s
  refine ⟨fun i => ?_, s.nodup_ordered _, s.pairwise_dueOrder⟩
  simp only [s.mem_dueOrder, s.dueAt_eq_some]
  exact ⟨fun ⟨due, r, run, phase, start, h⟩ => ⟨r, run, phase, start, due, h⟩,
    fun ⟨r, run, phase, start, due, h⟩ => ⟨due, r, run, phase, start, h⟩⟩

end Sys2Proof.Machine
end

-- ==== Time and the due order: expiries ====
section
/-! SUPPORT. What an expiry leaves of its record (R40), what a fold over slots leaves of each of them, and the settling of the
outstanding expiries (R39). -/

namespace Sys2Proof.Machine

/-! ### Periods that are present are not 0 -/

/-- The periods a record times by, now or after its pending update, are not 0 (R4, R5). -/
def RecordOf.PeriodsPos (r : Record) : Prop :=
  r.periodA ≠ 0 ∧ (r.kind.hasPeriodB = true → r.periodB ≠ 0) ∧ r.pending.periodA ≠ some 0 ∧ r.pending.periodB ≠ some 0

theorem RecordOf.periodsPos_of_wf {r : Record} (h : r.wf = true) : r.PeriodsPos := by
  have hitems : r.itemsWf = true := by
    simp only [RecordOf.wf, Bool.and_eq_true] at h
    exact h.1
  simp only [RecordOf.itemsWf, Bool.and_eq_true, bne_iff_ne, beq_iff_eq] at hitems
  obtain ⟨⟨⟨⟨⟨⟨⟨⟨⟨⟨ha, hb⟩, -⟩, -⟩, -⟩, -⟩, hpa⟩, hpb⟩, -⟩, -⟩, -⟩ := hitems
  exact ⟨ha, fun hk => by simpa [hk] using hb.symm, hpa, hpb⟩

theorem getD_ne_zero {staged : Option Period} {p : Period} (hs : staged ≠ some 0) (hp : p ≠ 0) : staged.getD p ≠ 0 := by
  cases staged with
  | none => exact hp
  | some q => exact fun e => hs (congrArg some e)

theorem RecordOf.periodsPos_takePending {r : Record} (h : r.PeriodsPos) : RecordOf.PeriodsPos r.takePending := by
  obtain ⟨ha, hb, hpa, hpb⟩ := h
  exact ⟨getD_ne_zero hpa ha, fun hk => getD_ne_zero hpb (hb hk), nofun, nofun⟩

/-- A phase's period in ticks, as a number: a 24-bit value, not 0 when the period is not. -/
theorem toNat_ticks (p : Period) : (ticks p).toNat = p.toNat := by
  have := p.isLt
  simp only [ticks, BitVec.toNat_setWidth]
  omega

theorem toNat_ticks_lt (p : Period) : (ticks p).toNat < 16777216 := by
  rw [toNat_ticks]
  exact p.isLt

theorem toNat_ticks_pos {p : Period} (h : p ≠ 0) : 0 < (ticks p).toNat := by
  rw [toNat_ticks]
  exact Nat.pos_of_ne_zero fun e => h (BitVec.eq_of_toNat_eq e)

/-! ### What an expiry leaves -/

/-- The record is IDLE, or in a phase that begins at `t` and is due one period later. -/
def RecordOf.Begun (r : Record) (t : Time) : Prop :=
  r.timing = .idle ∨ ∃ run phase, r.timing = .active run phase t (t + ticks (r.period phase))

/-- Periods that are not 0 stay so from `r` to `r'`, and one of them is the period of the phase that `r'` times. -/
def RecordOf.CarriesPeriods (r r' : Record) : Prop :=
  r.PeriodsPos → r'.PeriodsPos ∧ ∀ run phase start due, r'.timing = .active run phase start due → r'.period phase ≠ 0

theorem RecordOf.carriesPeriods_idle {r r' : Record} (ht : r'.timing = .idle) (hp : r.PeriodsPos → r'.PeriodsPos) :
    r.CarriesPeriods r' :=
  fun h => ⟨hp h, fun _ _ _ _ ht' => nomatch ht.symm.trans ht'⟩

theorem RecordOf.carriesPeriods_phaseA {r r' : Record} {run : Run} {start due : Time}
    (ht : r'.timing = .active run .a start due) (hp : r.PeriodsPos → r'.PeriodsPos) : r.CarriesPeriods r' := by
  refine fun h => ⟨hp h, fun run' phase start' due' ht' => ?_⟩
  cases ht.symm.trans ht'
  exact (hp h).1

theorem RecordOf.carriesPeriods_phaseB {r r' : Record} {run : Run} {start due : Time}
    (ht : r'.timing = .active run .b start due) (hk : r'.kind.hasPeriodB = true) (hp : r.PeriodsPos → r'.PeriodsPos) :
    r.CarriesPeriods r' := by
  refine fun h => ⟨hp h, fun run' phase start' due' ht' => ?_⟩
  cases ht.symm.trans ht'
  exact (hp h).2.1 hk

variable (s : State)

/-- The slots of `u` are those of `s` with a record written at slot `i` that comes of `r`, and is IDLE or begins a phase at `t`: what an
expiry, a fault or a renewal leaves. -/
def State.Rewrites (i : Fin 256) (r : Record) (t : Time) (u : State) : Prop :=
  ∃ r', u.slots = (s.putRecord i r').slots ∧ r'.Begun t ∧ r.CarriesPeriods r'

variable {s} in
/-- Only the slots before it matter. -/
theorem State.Rewrites.of_slots {v u : State} {i : Fin 256} {r : Record} {t : Time} (hv : v.slots = s.slots)
    (h : v.Rewrites i r t u) : s.Rewrites i r t u := by
  obtain ⟨r', hu, h⟩ := h
  exact ⟨r', by rw [hu, State.putRecord_slots, State.putRecord_slots, hv], h⟩

/-- A phase A that begins after the pending update is taken. -/
theorem State.rewrites_phaseA (i : Fin 256) (r : Record) (run : Run) (t : Time) (left : Option (BitVec 16)) (miss : BitVec 8) :
    s.Rewrites i r t (s.putRecord i { r.phaseAFrom run t with cyclesLeft := left, missCount := miss }) :=
  ⟨_, rfl, .inr ⟨run, .a, rfl⟩, RecordOf.carriesPeriods_phaseA rfl RecordOf.periodsPos_takePending⟩

theorem State.rewrites_fault (i : Fin 256) (r : Record) (k : Occurrence) (t : Time) : s.Rewrites i r t (s.fault i r k t) := by
  obtain ⟨r', hslots, h⟩ := s.rewrites_phaseA i r .lapsed t r.cyclesLeft (satIncr r.missCount)
  exact ⟨r', (s.slots_fault i r k t).trans hslots, h⟩

theorem State.rewrites_completeRecord (i : Fin 256) (r : Record) (n : Time) : s.Rewrites i r n (s.completeRecord i r n) :=
  ⟨_, rfl, .inl rfl, RecordOf.carriesPeriods_idle rfl id⟩

theorem State.rewrites_phaseAEnd (i : Fin 256) (r : Record) (hk : r.kind.hasPeriodB = true) (run : Run) (n : Time) :
    s.Rewrites i r n (s.phaseAEnd i r run n) := by
  refine ⟨{ r with timing := .active run .b n (n + ticks r.periodB) }, ?_, .inr ⟨run, .b, rfl⟩,
    RecordOf.carriesPeriods_phaseB rfl hk id⟩
  unfold State.phaseAEnd
  split <;> rfl

theorem State.rewrites_cycleEnd (i : Fin 256) (r : Record) (n : Time) : s.Rewrites i r n (s.cycleEnd i r n) := by
  have hposted : (if r.notify.cycle then s.post i r .cycle n else s).slots = s.slots := by split <;> rfl
  unfold State.cycleEnd
  dsimp only
  generalize (if r.notify.cycle then s.post i r .cycle n else s) = v at hposted ⊢
  refine .of_slots hposted ?_
  split
  · exact State.rewrites_phaseA _ i r .running n _ r.missCount
  · split
    · exact State.rewrites_completeRecord _ i r n
    · exact State.rewrites_phaseA _ i r .running n _ r.missCount

/-- An expiry leaves a record that is not timing as it is, and of a timing one leaves a record that is IDLE or begins a phase at the
expiry's instant (R40). -/
theorem State.expire_cases (i : Fin 256) (n : Time) :
    (s.dueAt i = none ∧ s.expire i n = s) ∨ ∃ r, s.recordAt i = some r ∧ s.Rewrites i r n (s.expire i n) := by
  unfold State.expire State.dueAt
  cases hr : s.recordAt i with
  | none => exact .inl ⟨rfl, rfl⟩
  | some r =>
    dsimp only
    cases ht : r.timing with
    | idle => exact .inl ⟨rfl, rfl⟩
    | paused => exact .inl ⟨rfl, rfl⟩
    | parked => exact .inl ⟨rfl, rfl⟩
    | active run phase start due =>
      refine .inr ⟨r, rfl, ?_⟩
      cases hk : r.kind with
      | oneshot => exact s.rewrites_completeRecord i r n
      | supervise => exact s.rewrites_fault i r .miss n
      | cadence =>
        cases phase with
        | a => exact s.rewrites_phaseAEnd i r (by rw [hk]; rfl) .running n
        | b => exact s.rewrites_cycleEnd i r n
      | window =>
        cases phase with
        | a => exact s.rewrites_phaseAEnd i r (by rw [hk]; rfl) run n
        | b => exact s.rewrites_fault i r .miss n

variable {s} in
/-- What stands in the slot that was written. -/
theorem State.Rewrites.recordAt {u : State} {i : Fin 256} {r : Record} {t : Time} (h : s.Rewrites i r t u) :
    ∃ r', u.recordAt i = some r' ∧ r'.Begun t ∧ r.CarriesPeriods r' := by
  obtain ⟨r', hu, h⟩ := h
  refine ⟨r', ?_, h⟩
  have hrec := s.recordAt_putRecord i i r'
  rw [if_pos rfl] at hrec
  rw [← hrec]
  simp only [State.recordAt, hu]

/-! ### What a fold over slots leaves of each slot -/

section
variable (f : State → Fin 256 → State) (hkeeps : ∀ (u : State) (i : Fin 256), u.Keeps (f u i))
  (hother : ∀ (u : State) (i j : Fin 256), i ≠ j → (f u i).slots[j] = u.slots[j])

include hkeeps in
theorem State.keeps_foldl (l : List (Fin 256)) : s.Keeps (l.foldl f s) := by
  induction l generalizing s with
  | nil => exact .refl s
  | cons i l ih => exact (hkeeps s i).trans (ih _)

include hother in
/-- An operation that writes no slot but its own leaves the slots outside its list alone. -/
theorem State.slots_foldl_of_notMem {l : List (Fin 256)} {j : Fin 256} (hj : j ∉ l) :
    (l.foldl f s).slots[j] = s.slots[j] := by
  induction l generalizing s with
  | nil => rfl
  | cons i l ih =>
    rw [List.mem_cons, not_or] at hj
    exact (ih (f s i) hj.2).trans (hother s i j (Ne.symm hj.1))

include hkeeps hother in
/-- A slot that the list holds once meets the operation with the record it had before. -/
theorem State.slots_foldl_of_mem {l : List (Fin 256)} (hnd : l.Nodup) {i : Fin 256} (hi : i ∈ l) :
    ∃ u : State, s.Keeps u ∧ u.slots[i] = s.slots[i] ∧ (l.foldl f s).slots[i] = (f u i).slots[i] := by
  obtain ⟨before, after, rfl⟩ := List.append_of_mem hi
  have hafter : i ∉ after := (List.nodup_cons.mp hnd.of_append_right).1
  have hbefore : i ∉ before := fun h => List.disjoint_of_nodup_append hnd h List.mem_cons_self
  refine ⟨before.foldl f s, s.keeps_foldl f hkeeps before, s.slots_foldl_of_notMem f hother hbefore, ?_⟩
  rw [List.foldl_append, List.foldl_cons]
  exact State.slots_foldl_of_notMem _ f hother hafter

end

/-! ### Settling (R39) -/

theorem State.settle_run (hp : s.pr.power = .run) : s.settle = s.dueNow.foldl (fun u i => u.expire i u.td.now) s := by
  unfold State.settle
  rw [hp]

/-- No expiry moves Now, so each of them is taken at the Now that stood at first. -/
theorem State.foldl_expire_now (l : List (Fin 256)) :
    l.foldl (fun u i => u.expire i u.td.now) s = l.foldl (fun u i => u.expire i s.td.now) s := by
  suffices h : ∀ u : State, u.td = s.td →
      l.foldl (fun u i => u.expire i u.td.now) u = l.foldl (fun u i => u.expire i s.td.now) u from h s rfl
  induction l with
  | nil => exact fun u _ => rfl
  | cons i l ih =>
    intro u hu
    rw [List.foldl_cons, List.foldl_cons, hu]
    exact ih _ ((u.keeps_expire i _).td.trans hu)

/-- A slot whose Due is not Now is as it was. -/
theorem State.slots_settle {i : Fin 256} (h : s.dueAt i ≠ some s.td.now) : s.settle.slots[i] = s.slots[i] := by
  unfold State.settle
  split
  · exact s.slots_foldl_of_notMem (fun u i => u.expire i u.td.now) (fun u i j hij => u.slots_expire_ne i j _ hij)
      (fun hi => h (s.mem_dueNow.mp hi))
  · rfl

/-- In RUN the record of a slot whose Due is Now has been expired at Now, once. -/
theorem State.recordAt_settle {i : Fin 256} (hp : s.pr.power = .run) (h : s.dueAt i = some s.td.now) :
    ∃ r r', s.recordAt i = some r ∧ s.settle.recordAt i = some r' ∧ r'.Begun s.td.now ∧ r.CarriesPeriods r' := by
  obtain ⟨u, hkeep, hslot, hfold⟩ := s.slots_foldl_of_mem (fun u i => u.expire i u.td.now)
    (fun u i => u.keeps_expire i _) (fun u i j hij => u.slots_expire_ne i j _ hij) s.nodup_dueNow (s.mem_dueNow.mpr h)
  have hsettle : s.settle.recordAt i = (u.expire i u.td.now).recordAt i := by
    simp only [State.settle, hp, State.recordAt, hfold]
  have hrec : u.recordAt i = s.recordAt i := by simp only [State.recordAt, hslot]
  rcases u.expire_cases i u.td.now with ⟨hnone, -⟩ | ⟨r, hr, hrw⟩
  · rw [State.dueAt_eq_of_slot hslot, h] at hnone
    cases hnone
  · obtain ⟨r', hr', hbegun, hcarries⟩ := hrw.recordAt
    exact ⟨r, r', hrec ▸ hr, hsettle.trans hr', hkeep.td ▸ hbegun, hcarries⟩

/-- What settling makes of a slot: nothing, or in RUN the expiry at Now of the record whose Due is Now. -/
theorem State.settle_cases (i : Fin 256) :
    ((s.pr.power = .run → s.dueAt i ≠ some s.td.now) ∧ s.settle.recordAt i = s.recordAt i) ∨
    ∃ r r', s.recordAt i = some r ∧ s.settle.recordAt i = some r' ∧ r'.Begun s.td.now ∧ r.CarriesPeriods r' := by
  by_cases h : s.pr.power = .run ∧ s.dueAt i = some s.td.now
  · exact .inr (s.recordAt_settle h.1 h.2)
  · refine .inl ⟨fun hp hd => h ⟨hp, hd⟩, ?_⟩
    by_cases hp : s.pr.power = .run
    · simp only [State.recordAt, s.slots_settle fun hd => h ⟨hp, hd⟩]
    · rw [s.settle_of_ne_run hp]

/-- Every record has periods that are not 0. -/
def State.PeriodsPos : Prop := ∀ i r, s.recordAt i = some r → r.PeriodsPos

variable {s} in
theorem State.recordsWf.periodsPos (h : s.recordsWf) : s.PeriodsPos := fun i r hr =>
  RecordOf.periodsPos_of_wf (by have := h.1 i; rwa [hr] at this)

variable {s} in
theorem State.PeriodsPos.settle (h : s.PeriodsPos) : s.settle.PeriodsPos := by
  intro i r hr
  rcases s.settle_cases i with ⟨-, hsame⟩ | ⟨r₀, r', hr₀, hr', -, hcarries⟩
  · exact h i r (hsame ▸ hr)
  · cases hr'.symm.trans hr
    exact (hcarries (h i r₀ hr₀)).1

theorem add_ticks_ne {p : Period} (h : p ≠ 0) (t : Time) : t + ticks p ≠ t := by
  intro e
  have hpos := toNat_ticks_pos h
  have hzero : ticks p = 0 := by simpa using e
  rw [hzero] at hpos
  exact Nat.lt_irrefl 0 hpos

/-- A phase that begins at `t` under periods that are not 0 is not due at `t`. -/
theorem RecordOf.Begun.due_ne {r r' : Record} {t : Time} (h : r'.Begun t) (hcarries : r.CarriesPeriods r') (hr : r.PeriodsPos)
    {run : Run} {phase : Phase} {start due : Time} (ht : r'.timing = .active run phase start due) : due ≠ t := by
  rcases h with h | ⟨run', phase', h⟩
  · cases h.symm.trans ht
  · cases h.symm.trans ht
    exact add_ticks_ne ((hcarries hr).2 _ _ _ _ ht) t

/-- Once the outstanding expiries have been taken none is outstanding (R39). -/
theorem State.settle_settled (h : s.PeriodsPos) : s.settle.settled := by
  intro hp i hdue
  rw [s.keeps_settle.pr] at hp
  rw [s.keeps_settle.td] at hdue
  rcases s.settle_cases i with ⟨hne, hsame⟩ | ⟨r, r', hr, hr', hbegun, hcarries⟩
  · exact hne hp (by simpa only [State.dueAt, hsame] using hdue)
  · obtain ⟨r'', run, phase, start, hr'', ht⟩ := s.settle.dueAt_eq_some.mp hdue
    cases hr'.symm.trans hr''
    exact hbegun.due_ne hcarries (h i r hr) ht rfl

/-- Settling a settled part does nothing, so an event at a powered part begins at the settled part. -/
theorem State.event_settle (hw : s.supply = true) (h : s.PeriodsPos) (f : State → State) : s.settle.event f = s.event f := by
  simp only [State.event, s.keeps_settle.supply, hw, if_true, s.settle.settle_of_settled (s.settle_settled h)]

/-- The end of a good frame that carries a request, at the settled part (R173). -/
def State.frameServed (s : State) (seq : Byte) (a : Admission) (owner : State → Answer) : State :=
  s.judge seq fun u => if u.hp.lastSeq = some seq then u.replay else u.serve seq a owner

theorem State.request_eq_event (seq : Byte) (a : Admission) (owner : State → Answer) :
    s.request seq a owner = s.event fun u => u.frameServed seq a owner := rfl

/-- Every command but EXPIRY, POWER_ON and STORE_CONTENTS_LOST is an event, which the outstanding expiries precede (log 8). -/
theorem exec_eq_event {c : Instr} (hexpiry : c ≠ .expiry) (hpower : ∀ x y : Bool, c ≠ .powerOn x y)
    (hstore : c ≠ .storeContentsLost) : ∃ f : State → State, ∀ s : State, exec c s = s.event f := by
  cases c with
  | expiry => exact absurd rfl hexpiry
  | powerOn x y => exact absurd rfl (hpower x y)
  | storeContentsLost => exact absurd rfl hstore
  | supplyLost | rstnAsserted | rstnReleased | loadingComplete | pwarnAsserted | pwarnWithdrawn | holdSaveComplete
  | checkpointComplete | tick | hrstPulseEnd | candidateAccepted | ignoredFrame | emptyFrame | starting | frameError | duplicate
  | badRequest | sampledLevelChange | csnFallingEdge => exact ⟨_, fun s => by unfold exec; rfl⟩
  | _ => exact ⟨_, fun s => s.request_eq_event _ _ _⟩

/-- Settles O26: the fold of `State.settle` meets each due record once, and leaves it due at least one tick after Now. -/
theorem outstandingExpiriesTaken : Obligations.OutstandingExpiriesTaken := by
  intro s hwf
  have hpos := State.recordsWf.periodsPos hwf
  refine ⟨fun hp => ?_, fun c hw hexpiry hpower hstore => ?_⟩
  · have hkeep := s.keeps_settle
    refine ⟨fun i => s.mem_dueNow, s.pairwise_dueNow, (s.settle_run hp).trans (s.foldl_expire_now _), fun i => ?_, hkeep.td,
      hkeep.pr, hkeep.hp, hkeep.lu, hkeep.supply, hkeep.routes, hkeep.threshold, fun i => s.slots_settle⟩
    have := s.settle_settled hpos (hkeep.pr ▸ hp) i
    rwa [hkeep.td] at this
  · obtain ⟨f, hf⟩ := exec_eq_event hexpiry hpower hstore
    rw [hf, hf, s.event_settle hw hpos]

end Sys2Proof.Machine
end

-- ==== Time and the due order: the clock and reset ====
section
/-! SUPPORT. What a tick, an idle step and SET_TICK do, and what holds at reset. -/

namespace Sys2Proof.Machine

variable (s : State)

/-! ### The idle step (log 4) -/

theorem State.step_of_empty (h : s.pending = []) : step s = .next s.idle := by
  unfold step
  rw [h]

theorem State.idle_dark (h : s.supply = false) : s.idle = s := by
  simp [State.idle, h]

theorem State.idle_due (hw : s.supply = true) (hp : s.pr.power = .run) {i : Fin 256} (hi : s.dueAt i = some s.td.now) :
    s.idle = { s with pending := [.expiry] } := by
  have hne : s.dueNow ≠ [] := List.ne_nil_of_mem (s.mem_dueNow.mpr hi)
  simp [State.idle, hw, hp, hne]

theorem State.idle_settled (hw : s.supply = true) (h : s.settled) :
    s.idle = { s.cycle with pending := s.cycle.cycleEvents } := by
  have hcond : (s.pr.power == .run && !s.dueNow.isEmpty) = false := by
    by_cases hp : s.pr.power = .run
    · simp [s.dueNow_eq_nil (h hp)]
    · simp [hp]
  simp [State.idle, hw, hcond]

/-- A candidate is held when the filter runs and has seen it for four REFCLK cycles to each µs of its width (R100). -/
theorem State.candidateHeld_eq (l : Fin 8) :
    s.candidateHeld l = (s.pr.power != .loading &&
      (s.lu.lines[l].candidate.any fun c => c.start + 4 * s.lu.lines[l].config.filterWidth.val ≤ s.refclk)) := by
  unfold State.candidateHeld
  split
  next hp => simp [hp]
  next hnone hrun =>
    rw [hnone, Option.any_none, Bool.and_false]
  next hsome hrun =>
    rw [hsome, bne_iff_ne.mpr hrun, Bool.true_and]
    rfl

/-- The events that one more REFCLK cycle completes. -/
theorem State.cycleEvents_cycle :
    s.cycle.cycleEvents =
      (if (s.ou.hrst.any fun n => 8000 ≤ n + 1) = true then [Instr.hrstPulseEnd] else []) ++
      ((List.finRange 8).filter fun l => s.pr.power != .loading &&
        (s.lu.lines[l].candidate.any fun c => c.start + 4 * s.lu.lines[l].config.filterWidth.val ≤ s.refclk + 1)).map
          Instr.candidateAccepted ++
      (if s.pr.power ≠ .loading ∧ s.td.tickPeriod.cycles ≤ s.td.divider + 1 then [Instr.tick] else []) := by
  have hpulse : (s.cycle.ou.hrst.any fun n => Config.hrstCycles ≤ n) = s.ou.hrst.any fun n => 8000 ≤ n + 1 := by
    rw [State.cycle_ou, Option.any_map]
    rfl
  have htick : s.cycle.tickComplete = true ↔ s.pr.power ≠ .loading ∧ s.td.tickPeriod.cycles ≤ s.td.divider + 1 := by
    by_cases hp : s.pr.power = .loading <;> simp [State.tickComplete, State.nextDivider, hp]
  unfold State.cycleEvents
  simp only [hpulse, htick, State.candidateHeld_eq]
  rfl

/-- Settles O2: the three cases of the idle step, with the events of the cycle at the counts after it. -/
theorem idleStepPassesOneCycle : Obligations.IdleStepPassesOneCycle := by
  intro s hq
  rw [s.step_of_empty hq]
  refine ⟨fun hw => by rw [s.idle_dark hw], fun hw hp ⟨i, hi⟩ => by rw [s.idle_due hw hp hi], fun hw h => ?_⟩
  rw [s.idle_settled hw h, s.cycleEvents_cycle]
  rfl

/-! ### TICK -/

/-- Settles O20: an event at a steady part meets the part as it stands, and each power state is one case of TICK. -/
theorem tickCounts : Obligations.TickCounts := by
  rintro s p ⟨hw, hp, hs⟩
  rw [show exec .tick s = execTick s from rfl, execTick, s.event_of_steady ⟨hw, hp, hs⟩]
  subst hp
  cases hp : s.pr.power <;> rfl

/-! ### SET_TICK (R28) -/

theorem tickPeriodOf_code (p : TickPeriod) : tickPeriodOf p.code = some p := by cases p <;> rfl

theorem tickPeriodOf_eq_none {x : Byte} (h : 3 < x.toNat) : tickPeriodOf x = none := by
  unfold tickPeriodOf
  split <;> simp_all

theorem exists_tickPeriodOf {x : Byte} (h : x.toNat ≤ 3) : ∃ p, tickPeriodOf x = some p := by
  have hcases : x.toNat = 0 ∨ x.toNat = 1 ∨ x.toNat = 2 ∨ x.toNat = 3 := by omega
  rcases hcases with h | h | h | h <;> simp [tickPeriodOf, h]

theorem State.mem_slotsWhere {p : Record → Bool} {i : Fin 256} :
    i ∈ s.slotsWhere p ↔ ∃ r, s.recordAt i = some r ∧ p r = true := by
  simp [State.slotsWhere, Option.any_eq_true]

/-- The first of the slots whose records pass a test is the lowest one. -/
theorem State.slotsWhere_eq_cons (p : Record → Bool) {i : Fin 256} {r : Record} (hr : s.recordAt i = some r) (hp : p r = true)
    (hlow : ∀ (j : Fin 256) (r' : Record), j < i → s.recordAt j = some r' → p r' = false) :
    ∃ rest, s.slotsWhere p = i :: rest := by
  have hsorted : (s.slotsWhere p).Pairwise (· < ·) := (List.pairwise_lt_finRange 256).filter _
  have hmem : i ∈ s.slotsWhere p := s.mem_slotsWhere.mpr ⟨r, hr, hp⟩
  cases hl : s.slotsWhere p with
  | nil => rw [hl] at hmem; cases hmem
  | cons j rest =>
    obtain ⟨r', hr', hp'⟩ := s.mem_slotsWhere.mp (hl ▸ List.mem_cons_self : j ∈ s.slotsWhere p)
    rw [hl] at hmem hsorted
    rcases List.mem_cons.mp hmem with rfl | hrest
    · exact ⟨rest, rfl⟩
    · have hji := (List.pairwise_cons.mp hsorted).1 i hrest
      rw [hlow j r' hji hr'] at hp'
      cases hp'

theorem State.slotsWhere_eq_nil (p : Record → Bool) (h : ∀ (j : Fin 256) (r : Record), s.recordAt j = some r → p r = false) :
    s.slotsWhere p = [] := by
  refine List.eq_nil_iff_forall_not_mem.mpr fun i hi => ?_
  obtain ⟨r, hr, hp⟩ := s.mem_slotsWhere.mp hi
  rw [h i r hr] at hp
  cases hp

/-- Outside RUN a request that only RUN admits is turned away by the power state (R150). -/
theorem refusedOutsideRun_of_request {c : Instr} {seq : Byte} {owner : State → Answer}
    (hc : ∀ s : State, exec c s = s.request seq .run owner) : refusedOutsideRun c seq := by
  intro s
  have hrefused : ∀ {p : PowerState} {st : Status}, s.ready p seq → s.endFrame.refusal .run = some st →
      exec c s = .next (s.answering seq st []) := fun h hst => by
    rw [hc, s.request_of_ready h, State.serve_refused _ hst, State.endFrame_answer]
  refine ⟨fun h => ?_, fun h => ?_⟩
  · rcases h with h | h
    · exact hrefused h (by simp [State.refusal, h.1.2.1])
    · exact hrefused h (by simp [State.refusal, h.1.2.1])
  · exact hrefused h (by simp [State.refusal, h.1.2.1])

/-- An accepted SET_TICK is answered as the timebase answers it. -/
theorem State.exec_setTick {seq x : Byte} (h : s.ready .run seq) :
    exec (.setTick seq x) s = .next
      ((s.endFrame.setTick x).state.answer seq (s.endFrame.setTick x).status (s.endFrame.setTick x).body) :=
  s.request_run h fun u => u.setTick x

/-- Settles O19, by R28's order of tests: the value, then the lowest slot that is not IDLE. -/
theorem setTickDecided : Obligations.SetTickDecided := by
  intro s seq x h
  refine ⟨fun hx => ?_, fun hx i r hr ht hlow => ?_, fun tp htp hidle => ?_, rfl, rfl, rfl, rfl,
    refusedOutsideRun_of_request fun _ => rfl⟩
  · rw [s.exec_setTick h]
    simp only [State.setTick, tickPeriodOf_eq_none hx]
    rfl
  · obtain ⟨tp, htp⟩ := exists_tickPeriodOf hx
    obtain ⟨rest, hrest⟩ := s.endFrame.slotsWhere_eq_cons (fun r => r.timing != .idle) hr (by simpa using ht)
      fun j r' hj hr' => by simpa using hlow j r' hj hr'
    rw [s.exec_setTick h]
    simp only [State.setTick, htp, hrest]
    rfl
  · have hnil := s.endFrame.slotsWhere_eq_nil (fun r => r.timing != .idle) fun j r hr => by simpa using hidle j r hr
    rw [s.exec_setTick h, ← htp]
    simp only [State.setTick, tickPeriodOf_code, hnil]
    rfl

/-! ### Reset -/

theorem State.recordAt_reset (i : Fin 256) : State.reset.recordAt i = none := by
  simp [State.recordAt, State.reset, freeSlot]

theorem State.store_reset (b : Fin 2) : State.reset.pr.store[b] = emptyBank := by simp [State.reset]

/-- No image stands in the store or in flight at reset (log 2). -/
theorem State.imagesSatisfy_reset (p : Image → Bool) : State.reset.imagesSatisfy p :=
  ⟨rfl, fun b => by rw [State.store_reset]; rfl⟩

theorem State.generation?_reset (b : Fin 2) : State.reset.pr.store[b].generation? = none := by
  rw [State.store_reset]
  rfl

/-- Settles O4: with every slot FREE, every bank empty, every route cold and the queue empty the invariants hold at reset. -/
theorem resetBeginsLoading : Obligations.ResetBeginsLoading := by
  have hroute : ∀ o : Fin 16, State.reset.ou.routes[o] = coldRoute := fun o => by simp [State.reset]
  have hdriven : ∀ o : Fin 16, State.reset.driven o = false := fun _ => rfl
  have hattn : State.reset.attn = false := rfl
  refine ⟨rfl, rfl, rfl, rfl, rfl, rfl, rfl, rfl, rfl, rfl, hdriven, hattn, rfl, ?records, ?dues, ?modes, ?queue, ?handles, ?banks⟩
  case records => exact ⟨fun i => by rw [State.recordAt_reset]; rfl, State.imagesSatisfy_reset _⟩
  case dues => exact ⟨fun i => by rw [State.recordAt_reset]; rfl, Nat.zero_le _, State.imagesSatisfy_reset _⟩
  case modes => exact ⟨nofun, fun _ => ⟨rfl, rfl, rfl⟩, nofun, nofun, nofun, nofun, fun _ h => absurd rfl h⟩
  case queue => exact ⟨.nil, nofun⟩
  case handles => exact ⟨fun o => by rw [hroute]; rfl, nofun, State.imagesSatisfy_reset _⟩
  case banks => exact ⟨.inl (State.generation?_reset 0), fun _ h => absurd rfl h, nofun, nofun⟩

end Sys2Proof.Machine
end

-- ==== Time and the due order: the range of dues, record by record ====
section
/-! SUPPORT. What it means for one record, one table and one image that its dues are in range (R31, R50), and which operations on a
record keep it so. -/

namespace Sys2Proof.Machine

/-! ### A record's due -/

section
variable {r : Record} {p : PowerState} {n : Time} {run : Run} {phase : Phase} {start due remaining : Time}

theorem RecordOf.dueWf_of_idle (ht : r.timing = .idle) : r.dueWf p n = true := by
  unfold RecordOf.dueWf
  rw [ht]

theorem RecordOf.dueWf_active_iff (ht : r.timing = .active run phase start due) :
    r.dueWf p n = true ↔
      (due - n).toNat ≤ (ticks (r.period phase)).toNat ∧ (p = .hold ∨ p = .parked → due ≠ n) := by
  unfold RecordOf.dueWf
  rw [ht]
  cases p <;> simp [BitVec.le_def]

theorem remainingWf_iff {q : Period} : remainingWf remaining q = true ↔ 0 < remaining.toNat ∧ remaining.toNat ≤ (ticks q).toNat := by
  have hne : remaining ≠ 0 ↔ 0 < remaining.toNat := by
    rw [Nat.pos_iff_ne_zero, ne_eq, ne_eq, ← BitVec.toNat_inj]
    rfl
  simp [remainingWf, ← hne, BitVec.le_def]

theorem RecordOf.dueWf_paused_iff (ht : r.timing = .paused run phase remaining) :
    r.dueWf p n = true ↔ 0 < remaining.toNat ∧ remaining.toNat ≤ (ticks (r.period phase)).toNat := by
  unfold RecordOf.dueWf
  rw [ht]
  exact remainingWf_iff

theorem RecordOf.dueWf_parked_iff (ht : r.timing = .parked run phase remaining) :
    r.dueWf p n = true ↔ 0 < remaining.toNat ∧ remaining.toNat ≤ (ticks (r.period phase)).toNat := by
  unfold RecordOf.dueWf
  rw [ht]
  exact remainingWf_iff

theorem sub_toNat_pos_iff {a b : Time} : 0 < (a - b).toNat ↔ a ≠ b := by
  rw [Nat.pos_iff_ne_zero, ne_eq, ne_eq, ← BitVec.toNat_inj, BitVec.toNat_sub]
  omega

/-- HOLD asks for a distance from 1 to the period. -/
theorem RecordOf.dueWf_hold_iff (ht : r.timing = .active run phase start due) :
    r.dueWf .hold n = true ↔ 0 < (due - n).toNat ∧ (due - n).toNat ≤ (ticks (r.period phase)).toNat := by
  rw [r.dueWf_active_iff ht, sub_toNat_pos_iff]
  simp [and_comm]

/-- What HOLD asks is the most that a power state asks. -/
theorem RecordOf.dueWf_of_hold (h : r.dueWf .hold n = true) : r.dueWf p n = true := by
  cases ht : r.timing with
  | idle => exact r.dueWf_of_idle ht
  | active => rw [r.dueWf_active_iff ht] at *; exact ⟨h.1, fun _ => h.2 (.inl rfl)⟩
  | paused => rwa [r.dueWf_paused_iff ht] at *
  | parked => rwa [r.dueWf_parked_iff ht] at *

/-- Outside HOLD and PARKED a distance may be 0, as it may in the power state before. -/
theorem RecordOf.dueWf_loosen {q : PowerState} (hq : q ≠ .hold) (hq' : q ≠ .parked) (h : r.dueWf p n = true) :
    r.dueWf q n = true := by
  cases ht : r.timing with
  | idle => exact r.dueWf_of_idle ht
  | active => rw [r.dueWf_active_iff ht] at *; exact ⟨h.1, fun e => (e.elim hq hq').elim⟩
  | paused => rwa [r.dueWf_paused_iff ht] at *
  | parked => rwa [r.dueWf_parked_iff ht] at *

/-- A due that has not come is in range for HOLD. -/
theorem RecordOf.dueWf_tighten (h : r.dueWf p n = true)
    (hne : ∀ run phase start due, r.timing = .active run phase start due → due ≠ n) : r.dueWf .hold n = true := by
  cases ht : r.timing with
  | idle => exact r.dueWf_of_idle ht
  | active => rw [r.dueWf_active_iff ht] at *; exact ⟨h.1, fun _ => hne _ _ _ _ ht⟩
  | paused => rwa [r.dueWf_paused_iff ht] at *
  | parked => rwa [r.dueWf_parked_iff ht] at *

/-- One tick on, a due that had not come is at most at its instant (R31). -/
theorem RecordOf.dueWf_tick (h : r.dueWf .hold n = true) : r.dueWf .run (n + 1) = true := by
  cases ht : r.timing with
  | idle => exact r.dueWf_of_idle ht
  | active run phase start due =>
    rw [r.dueWf_hold_iff ht] at h
    rw [r.dueWf_active_iff ht]
    refine ⟨?_, nofun⟩
    have hsub : due - (n + 1) = due - n - 1 := (sub_sub due n 1).symm
    rw [hsub]
    bv_omega
  | paused => rwa [r.dueWf_paused_iff ht] at *
  | parked => rwa [r.dueWf_parked_iff ht] at *

/-- A phase that begins at Now is due within its period. -/
theorem RecordOf.Begun.dueWf (h : r.Begun n) : r.dueWf .run n = true := by
  rcases h with ht | ⟨run, phase, ht⟩
  · exact r.dueWf_of_idle ht
  · rw [r.dueWf_active_iff ht, add_sub_cancel_left]
    exact ⟨le_rfl, nofun⟩

/-! ### The timing operations in RUN -/

variable {r' : Record}

theorem RecordOf.begun_startedAt (r : Record) (n : Time) : RecordOf.Begun (r.startedAt n) n := .inr ⟨.running, .a, rfl⟩

theorem RecordOf.begun_start? (h : r.start? n = some r') : r'.Begun n := by
  unfold RecordOf.start? at h
  split at h <;> cases h
  exact r.begun_startedAt n

theorem RecordOf.begun_restart? (h : r.restart? n = some r') : r'.Begun n := by
  unfold RecordOf.restart? at h
  split at h <;> cases h
  all_goals exact r.begun_startedAt n

theorem RecordOf.begun_groupStart? {restartRunning : Bool} (h : r.groupStart? restartRunning n = some r') : r'.Begun n := by
  unfold RecordOf.groupStart? at h
  split at h
  · exact begun_restart? h
  · exact begun_start? h

/-- A stopped record is IDLE, which is as good at any Now. -/
theorem RecordOf.begun_stop? (h : r.stop? = some r') : r'.Begun n := by
  unfold RecordOf.stop? at h
  split at h <;> cases h
  all_goals exact .inl rfl

theorem RecordOf.dueWf_pause? (hr : r.dueWf .hold n = true) (h : r.pause? n = some (r', remaining)) : r'.dueWf p n = true := by
  unfold RecordOf.pause? at h
  split at h
  next ht =>
    cases h
    exact (RecordOf.dueWf_paused_iff rfl).mpr ((r.dueWf_hold_iff ht).mp hr)
  next => cases h

theorem RecordOf.dueWf_continue? (hr : r.dueWf p n = true) (h : r.continue? n = some (r', due)) : r'.dueWf .run n = true := by
  unfold RecordOf.continue? at h
  split at h
  next remaining ht =>
    cases h
    refine (RecordOf.dueWf_active_iff rfl).mpr ⟨?_, nofun⟩
    rw [add_sub_cancel_left]
    exact ((r.dueWf_paused_iff ht).mp hr).2
  next => cases h

end

/-! ### Records of images -/

theorem RecordOf.savedDueWf_saved {r : Record} {n : Time} (h : r.dueWf .hold n = true) : (r.saved n).savedDueWf = true := by
  unfold RecordOf.savedDueWf RecordOf.saved
  cases ht : r.timing with
  | idle => rfl
  | active => exact remainingWf_iff.mpr ((r.dueWf_hold_iff ht).mp h)
  | paused => exact remainingWf_iff.mpr ((r.dueWf_paused_iff ht).mp h)
  | parked => exact remainingWf_iff.mpr ((r.dueWf_parked_iff ht).mp h)

theorem RecordOf.dueWf_restored {r : SavedRecord} (h : r.savedDueWf = true) (p : PowerState) (n : Time) :
    r.restored.dueWf p n = true := by
  unfold RecordOf.savedDueWf at h
  unfold RecordOf.dueWf RecordOf.restored
  cases ht : r.timing <;> rw [ht] at h <;> exact h

end Sys2Proof.Machine
end

-- ==== Time and the due order: the range of dues, across the part ====
section
/-! SUPPORT. Dues in range across the table and the images, the part as an event meets it, and reconciliation (R166 to R169). -/

namespace Sys2Proof.Machine

variable (s : State)

/-! ### The table -/

/-- Every record's due is in range at `n`, as power state `p` asks. -/
def State.TableDues (p : PowerState) (n : Time) : Prop := ∀ i r, s.recordAt i = some r → r.dueWf p n = true

section
variable {s : State} {p : PowerState} {n : Time}

theorem State.TableDues.of_slots {t : State} (ht : t.slots = s.slots) (h : s.TableDues p n) : t.TableDues p n := by
  intro i r hr
  refine h i r ?_
  rw [← hr]
  simp only [State.recordAt, ht]

theorem State.TableDues.of_hold {q : PowerState} (h : s.TableDues .hold n) : s.TableDues q n :=
  fun i r hr => r.dueWf_of_hold (h i r hr)

theorem State.TableDues.loosen {q : PowerState} (hq : q ≠ .hold) (hq' : q ≠ .parked) (h : s.TableDues p n) : s.TableDues q n :=
  fun i r hr => r.dueWf_loosen hq hq' (h i r hr)

theorem State.TableDues.putRecord {i : Fin 256} {r : Record} (h : s.TableDues p n) (hr : r.dueWf p n = true) :
    (s.putRecord i r).TableDues p n := by
  intro j r' hr'
  rw [s.recordAt_putRecord] at hr'
  split at hr'
  · cases hr'; exact hr
  · exact h j r' hr'

/-- An expiry, a fault or a renewal at `n` leaves dues in range in RUN. -/
theorem State.TableDues.rewrites {i : Fin 256} {r : Record} {u : State} (h : s.TableDues .run n) (hu : s.Rewrites i r n u) :
    u.TableDues .run n := by
  obtain ⟨r', hslots, hbegun, -⟩ := hu
  exact (h.putRecord hbegun.dueWf).of_slots hslots

theorem State.TableDues.expire (h : s.TableDues .run n) (i : Fin 256) : (s.expire i n).TableDues .run n := by
  rcases s.expire_cases i n with ⟨-, hsame⟩ | ⟨r, -, hrw⟩
  · rwa [hsame]
  · exact h.rewrites hrw

theorem State.tableDues_of_empty (h : ∀ i, s.recordAt i = none) : s.TableDues p n :=
  fun i _ hr => nomatch (h i).symm.trans hr

end

/-! ### The images -/

/-- Every Remaining of an image is in range (R50). -/
def Image.duesWf (img : Image) : Prop := (img.recordsSatisfy fun r => r.savedDueWf) = true

theorem Image.duesWf_iff {img : Image} :
    img.duesWf ↔ ∀ (i : Fin 256) (r : SavedRecord), img.slots[i].record = some r → r.savedDueWf = true := by
  simp [Image.duesWf, Image.recordsSatisfy, Option.all_eq_true]

/-- The snapshot in flight and the contents of the banks have every Remaining in range. -/
def PowerUnit.ImagesDue (p : PowerUnit) : Prop :=
  (∀ c, p.checkpoint = some c → c.snapshot.duesWf) ∧
    ∀ (b : Fin 2) (st : StoredImage), p.store[b].content = some st → st.image.duesWf

/-- The invariant in its three parts. -/
theorem State.duesWf_iff :
    s.duesWf ↔ s.TableDues s.pr.power s.td.now ∧ s.td.holdCounter ≤ Config.holdMax ∧ s.pr.ImagesDue := by
  simp only [State.duesWf, State.TableDues, PowerUnit.ImagesDue, State.imagesSatisfy, Image.duesWf, Option.all_eq_true]

section
variable {p : PowerUnit}

theorem PowerUnit.ImagesDue.invalidate (h : p.ImagesDue) (b : Fin 2) : (p.invalidate b).ImagesDue := by
  refine ⟨h.1, fun c st hst => h.2 c st ?_⟩
  by_cases hbc : b.val = c.val
  · obtain rfl := Fin.ext hbc
    simpa [PowerUnit.invalidate] using hst
  · simpa [PowerUnit.invalidate, Vector.getElem_set_ne, hbc] using hst

theorem PowerUnit.ImagesDue.written (h : p.ImagesDue) (b : Fin 2) {img : Image} (himg : img.duesWf) :
    (p.written b img).ImagesDue := by
  have hset : PowerUnit.ImagesDue
      { p with
        store := p.store.set b ⟨true, some ⟨img, imageCrc img⟩⟩
        banks := p.banks.set b (some ⟨img.generation, img.origin⟩) } := by
    refine ⟨h.1, fun c st hst => ?_⟩
    by_cases hbc : b.val = c.val
    · obtain rfl := Fin.ext hbc
      have hcontent : some (StoredImage.mk img (imageCrc img)) = some st := by simpa using hst
      cases hcontent
      exact himg
    · exact h.2 c st (by simpa [Vector.getElem_set_ne, hbc] using hst)
  unfold PowerUnit.written
  dsimp only
  split
  · split
    · exact hset.invalidate _
    · exact hset
  · exact hset

/-- Abandoning a checkpoint takes an image away. -/
theorem PowerUnit.ImagesDue.abandon {q : PowerUnit} (h : p.ImagesDue) (hq : q.checkpoint = none) (hstore : q.store = p.store) :
    q.ImagesDue :=
  ⟨fun _ hc => (nomatch hq.symm.trans hc), fun b st hst => h.2 b st (by simpa only [hstore] using hst)⟩

theorem PowerUnit.ImagesDue.selected (h : p.ImagesDue) {img : Image} (himg : p.selected = some img) : img.duesWf := by
  unfold PowerUnit.selected at himg
  obtain ⟨b, -, hb⟩ := Option.bind_eq_some_iff.mp himg
  obtain ⟨st, hst, rfl⟩ := Option.map_eq_some_iff.mp hb
  exact h.2 b st hst

end

variable {s} in
/-- An image of a part with no due at its instant has every Remaining from 1 to a period (R157). -/
theorem State.TableDues.image (h : s.TableDues .hold s.td.now) (origin : Origin) (g : BitVec 32) :
    (s.image origin g).duesWf := by
  refine Image.duesWf_iff.mpr fun i r hr => ?_
  have hrec : ((s.recordAt i).map fun r => r.saved s.td.now) = some r := by
    rw [← hr]
    simp [State.recordAt, State.image]
  obtain ⟨r₀, hr₀, rfl⟩ := Option.map_eq_some_iff.mp hrec
  exact RecordOf.savedDueWf_saved (h i r₀ hr₀)

/-- The records an image is loaded into are in range at any Now (R24). -/
theorem State.tableDues_of_image {img : Image} (himg : img.duesWf)
    (hs : s.slots = img.slots.map fun slot => ⟨slot.gen, slot.record.map fun r => r.restored⟩) (p : PowerState) (n : Time) :
    s.TableDues p n := by
  intro i r hr
  have hrec : (img.slots[i].record.map fun r => r.restored) = some r := by
    rw [← hr]
    simp [State.recordAt, hs]
  obtain ⟨r₀, hr₀, rfl⟩ := Option.map_eq_some_iff.mp hrec
  exact RecordOf.dueWf_restored (Image.duesWf_iff.mp himg i r₀ hr₀) p n

/-! ### The part as an event meets it -/

/-- What holds of the part at the beginning of an event, when the outstanding expiries have been taken: outside LOADING every due is
still to come, and the power state says which records may stand in the table and whether a save is in flight. -/
structure State.Timely : Prop where
  table : s.pr.power ≠ .loading → s.TableDues .hold s.td.now
  waiting : s.pr.power = .loading → s.TableDues .loading s.td.now
  counter : s.td.holdCounter ≤ Config.holdMax
  images : s.pr.ImagesDue
  periods : s.PeriodsPos
  unparked : s.pr.power ≠ .recovered → s.pr.power ≠ .loading → ∀ i, s.parkedAt i = none
  untimed : s.pr.power = .recovered → ∀ i, s.dueAt i = none
  save : s.pr.save.isSome = true → s.pr.power = .hold

theorem State.parkedAt_eq_none {i : Fin 256} {r : Record} (h : s.parkedAt i = none) (hr : s.recordAt i = some r)
    (run : Run) (phase : Phase) (remaining : Time) : r.timing ≠ .parked run phase remaining := by
  intro ht
  rw [State.parkedAt, hr] at h
  simp [ht] at h

theorem State.dueAt_eq_none {i : Fin 256} {r : Record} (h : s.dueAt i = none) (hr : s.recordAt i = some r)
    (run : Run) (phase : Phase) (start due : Time) : r.timing ≠ .active run phase start due :=
  fun ht => nomatch h.symm.trans (s.dueAt_eq_some.mpr ⟨r, run, phase, start, hr, ht⟩)

variable {s} in
/-- A save is in flight only in HOLD. -/
theorem State.modesWf.save (h : s.modesWf) (hs : s.pr.save.isSome = true) : s.pr.power = .hold := by
  obtain ⟨-, hloading, hrecovered, hrun, -, hparked, -⟩ := h
  cases hp : s.pr.power with
  | hold => rfl
  | loading => simp [(hloading hp).2.1] at hs
  | recovered => simp [(hrecovered hp).1] at hs
  | run => simp [(hrun hp).1] at hs
  | parked => simp [hparked hp] at hs

/-- Settling a part without PARKED records makes none. -/
theorem State.parkedAt_settle {i : Fin 256} (h : s.parkedAt i = none) : s.settle.parkedAt i = none := by
  rcases s.settle_cases i with ⟨-, hsame⟩ | ⟨r, r', -, hr', hbegun, -⟩
  · simpa only [State.parkedAt, hsame] using h
  · rw [State.parkedAt, hr']
    rcases hbegun with ht | ⟨run, phase, ht⟩ <;> simp [ht]

variable {s} in
/-- Settling brings every due outside LOADING into the range that HOLD asks. -/
theorem State.tableDues_settle (hpos : s.PeriodsPos) (hd : s.duesWf) (hp : s.pr.power ≠ .loading)
    (huntimed : s.pr.power = .recovered → ∀ i, s.dueAt i = none) : s.settle.TableDues .hold s.td.now := by
  obtain ⟨htable, -, -⟩ := s.duesWf_iff.mp hd
  intro i r' hr'
  rcases s.settle_cases i with ⟨hne, hsame⟩ | ⟨r, r'', hr, hr'', hbegun, hcarries⟩
  · rw [hsame] at hr'
    refine r'.dueWf_tighten (htable i r' hr') fun run phase start due ht e => ?_
    have hdue : s.dueAt i = some s.td.now := s.dueAt_eq_some.mpr ⟨r', run, phase, start, hr', e ▸ ht⟩
    have hactive := (r'.dueWf_active_iff ht).mp (htable i r' hr')
    cases hpower : s.pr.power with
    | run => exact hne hpower hdue
    | hold => exact hactive.2 (.inl hpower) e
    | parked => exact hactive.2 (.inr hpower) e
    | loading => exact hp hpower
    | recovered => exact s.dueAt_eq_none (huntimed hpower i) hr' run phase start due ht
  · cases hr''.symm.trans hr'
    exact r'.dueWf_tighten hbegun.dueWf fun _ _ _ _ ht => hbegun.due_ne hcarries (hpos i r hr) ht

variable {s} in
theorem State.timely_settle (hm : s.modesWf) (hw : s.recordsWf) (hd : s.duesWf) : s.settle.Timely := by
  have hpos := State.recordsWf.periodsPos hw
  have hsave := fun hs => State.modesWf.save hm hs
  obtain ⟨-, -, hrecovered, -, -, -, hunparked⟩ := hm
  obtain ⟨htable, hcounter, himages⟩ := s.duesWf_iff.mp hd
  have hstill : ∀ {p : PowerState}, s.settle.pr.power = p → p ≠ .run → s.settle = s := fun hp hne =>
    s.settle_of_ne_run (by rw [← s.keeps_settle.pr, hp]; exact hne)
  constructor
  case table =>
    intro hp
    rw [s.keeps_settle.pr] at hp
    rw [s.keeps_settle.td]
    exact State.tableDues_settle hpos hd hp fun hr => (hrecovered hr).2.1
  case waiting =>
    intro hp
    have hs := hstill hp (by decide)
    rw [hs] at hp ⊢
    exact hp ▸ htable
  case counter => rwa [s.keeps_settle.td]
  case images => rwa [s.keeps_settle.pr]
  case periods => exact hpos.settle
  case unparked =>
    rw [s.keeps_settle.pr]
    exact fun hr hl i => s.parkedAt_settle (hunparked hr hl i)
  case untimed =>
    intro hp
    have hs := hstill hp (by decide)
    rw [hs] at hp ⊢
    exact (hrecovered hp).2.1
  case save => rwa [s.keeps_settle.pr]

section
variable {s : State}

theorem State.Timely.tableDues (h : s.Timely) : s.TableDues s.pr.power s.td.now := by
  by_cases hp : s.pr.power = .loading
  · rw [hp]; exact h.waiting hp
  · exact (h.table hp).of_hold

theorem State.Timely.duesWf (h : s.Timely) : s.duesWf := s.duesWf_iff.mpr ⟨h.tableDues, h.counter, h.images⟩

/-- The port is no part of it. -/
theorem State.Timely.withPort (h : s.Timely) (hp : HostPort) : State.Timely { s with hp := hp } :=
  ⟨h.table, h.waiting, h.counter, h.images, h.periods, h.unparked, h.untimed, h.save⟩

end

/-! ### Reconciliation (R166 to R169) -/

/-- One turn of the replay: a past Due is expired, and otherwise it is over. -/
theorem State.replayDue_succ_cases (i : Fin 256) (newNow : Time) (fuel : Nat) :
    (∃ due, s.dueAt i = some due ∧ isPast due newNow = true ∧
      s.replayDue i newNow (fuel + 1) = (s.expire i due).replayDue i newNow fuel) ∨
    ((∀ due, s.dueAt i = some due → ¬ isPast due newNow = true) ∧ s.replayDue i newNow (fuel + 1) = s) := by
  rw [State.replayDue]
  cases hd : s.dueAt i with
  | none => exact .inr ⟨nofun, rfl⟩
  | some due =>
    by_cases hp : isPast due newNow = true
    · exact .inl ⟨due, rfl, hp, if_pos hp⟩
    · exact .inr ⟨fun _ e => Option.some.inj e ▸ hp, if_neg hp⟩

theorem State.keeps_replayDue (i : Fin 256) (newNow : Time) (fuel : Nat) : s.Keeps (s.replayDue i newNow fuel) := by
  induction fuel generalizing s with
  | zero => exact .refl s
  | succ fuel ih =>
    rcases s.replayDue_succ_cases i newNow fuel with ⟨due, -, -, hturn⟩ | ⟨-, hover⟩
    · rw [hturn]; exact (s.keeps_expire i _).trans (ih _)
    · rw [hover]; exact .refl s

theorem State.slots_replayDue_ne (i j : Fin 256) (h : i ≠ j) (newNow : Time) (fuel : Nat) :
    (s.replayDue i newNow fuel).slots[j] = s.slots[j] := by
  induction fuel generalizing s with
  | zero => rfl
  | succ fuel ih =>
    rcases s.replayDue_succ_cases i newNow fuel with ⟨due, -, -, hturn⟩ | ⟨-, hover⟩
    · rw [hturn]; exact (ih _).trans (s.slots_expire_ne i j _ h)
    · rw [hover]

theorem State.keeps_treat (frozen : Time) (h : Nat) (unknown : Bool) (i : Fin 256) : s.Keeps (s.treat frozen h unknown i) := by
  unfold State.treat
  split
  · exact .refl s
  · dsimp only
    split
    · exact s.keeps_putRecord i _
    · exact (s.keeps_putRecord i _).trans (State.keeps_replayDue _ i _ _)

theorem State.slots_putRecord_ne {i j : Fin 256} (h : i ≠ j) (r : Record) : (s.putRecord i r).slots[j] = s.slots[j] := by
  have hij : i.val ≠ j.val := fun e => h (Fin.ext e)
  simp [Vector.getElem_set_ne, hij]

theorem State.slots_treat_ne (frozen : Time) (h : Nat) (unknown : Bool) (i j : Fin 256) (hij : i ≠ j) :
    (s.treat frozen h unknown i).slots[j] = s.slots[j] := by
  unfold State.treat
  split
  · rfl
  · dsimp only
    split
    · exact s.slots_putRecord_ne hij _
    · exact (State.slots_replayDue_ne _ i j hij _ _).trans (s.slots_putRecord_ne hij _)

/-- The distance from the instant `h` ticks on to the one `e` ticks on, when `e` is the later and less than half the circle. -/
theorem toNat_sub_ahead (frozen : Time) {h e : Nat} (hh : h ≤ Config.holdMax) (hlt : h ≤ e) (he : e < 2147483648) :
    ((frozen + BitVec.ofNat 32 e) - (frozen + BitVec.ofNat 32 h)).toNat = e - h := by
  rw [add_sub_add_left_eq_sub, BitVec.toNat_sub, BitVec.toNat_ofNat, BitVec.toNat_ofNat]
  unfold Config.holdMax at hh
  omega

/-- A due is past exactly when it is no later, within half the circle (R31). -/
theorem isPast_iff {frozen : Time} {h e : Nat} (hh : h ≤ Config.holdMax) (he : e < 2147483648) :
    isPast (frozen + BitVec.ofNat 32 e) (frozen + BitVec.ofNat 32 h) = true ↔ e ≤ h := by
  have hsub : ((frozen + BitVec.ofNat 32 e) - (frozen + BitVec.ofNat 32 h)).toNat = (4294967296 - h + e) % 4294967296 := by
    rw [add_sub_add_left_eq_sub, BitVec.toNat_sub, BitVec.toNat_ofNat, BitVec.toNat_ofNat]
    unfold Config.holdMax at hh
    omega
  have hzero : (frozen + BitVec.ofNat 32 e) - (frozen + BitVec.ofNat 32 h) = 0 ↔
      ((frozen + BitVec.ofNat 32 e) - (frozen + BitVec.ofNat 32 h)).toNat = 0 := by
    rw [← BitVec.toNat_inj]
    rfl
  simp only [isPast, hzero, BitVec.msb_eq_decide, hsub, Bool.or_eq_true, decide_eq_true_eq]
  unfold Config.holdMax at hh
  omega

/-- A record that the replay of `h` ticks from `frozen` may meet with this fuel: IDLE, or due `e` ticks from `frozen`, at most a
period past the end, and reached before the fuel is used up. -/
def RecordOf.Replayable (r : Record) (frozen : Time) (h fuel : Nat) : Prop :=
  r.timing = .idle ∨ ∃ run phase start, ∃ e : Nat, r.timing = .active run phase start (frozen + BitVec.ofNat 32 e) ∧
    e ≤ h + (ticks (r.period phase)).toNat ∧ h < fuel + e

theorem RecordOf.Replayable.of_active {r : Record} {frozen start due : Time} {h fuel : Nat} {run : Run} {phase : Phase}
    (hrep : r.Replayable frozen h fuel) (ht : r.timing = .active run phase start due) :
    ∃ e : Nat, due = frozen + BitVec.ofNat 32 e ∧ e ≤ h + (ticks (r.period phase)).toNat ∧ h < fuel + e := by
  rcases hrep with hidle | ⟨run', phase', start', e, ht', h⟩
  · cases hidle.symm.trans ht
  · cases ht'.symm.trans ht
    exact ⟨e, rfl, h⟩

/-- Every due that the replay meets lies within half the circle of the instant it begins at. -/
theorem ahead_lt {h e : Nat} {p : Period} (hh : h ≤ Config.holdMax) (he : e ≤ h + (ticks p).toNat) : e < 2147483648 := by
  have := toNat_ticks_lt p
  unfold Config.holdMax at hh
  omega

/-- A due that lies after the end of the replay lies within its period of it. -/
theorem RecordOf.dueWf_of_ahead {r : Record} {frozen start : Time} {h e : Nat} {run : Run} {phase : Phase}
    (hh : h ≤ Config.holdMax) (ht : r.timing = .active run phase start (frozen + BitVec.ofNat 32 e))
    (he : e ≤ h + (ticks (r.period phase)).toNat) (hlt : h < e) : r.dueWf .hold (frozen + BitVec.ofNat 32 h) = true := by
  have hdist := toNat_sub_ahead frozen hh hlt.le (ahead_lt hh he)
  rw [r.dueWf_hold_iff ht, hdist]
  omega

/-- An expiry at a past due leaves a record whose due is at least one tick later, so one unit of fuel is enough for it. -/
theorem RecordOf.Begun.replayable {r r' : Record} {frozen : Time} {h fuel e : Nat}
    (hbegun : r'.Begun (frozen + BitVec.ofNat 32 e)) (hcarries : r.CarriesPeriods r') (hr : r.PeriodsPos) (he : e ≤ h)
    (hfuel : h < fuel + 1 + e) : r'.Replayable frozen h fuel := by
  rcases hbegun with ht | ⟨run, phase, ht⟩
  · exact .inl ht
  · have hpos := toNat_ticks_pos ((hcarries hr).2 _ _ _ _ ht)
    refine .inr ⟨run, phase, frozen + BitVec.ofNat 32 e, e + (ticks (r'.period phase)).toNat, ?_, by omega, by omega⟩
    rw [ht, BitVec.ofNat_add, ← add_assoc, BitVec.ofNat_toNat, BitVec.setWidth_eq]

/-- The replay ends with the record IDLE or due within its period of the new Now (R168 step 2). -/
theorem State.recordAt_replayDue {i : Fin 256} {frozen : Time} {h : Nat} (hh : h ≤ Config.holdMax) (fuel : Nat) :
    ∀ (s : State) (r : Record), s.recordAt i = some r → r.PeriodsPos → r.Replayable frozen h fuel →
      ∃ r', (s.replayDue i (frozen + BitVec.ofNat 32 h) fuel).recordAt i = some r' ∧
        r'.dueWf .hold (frozen + BitVec.ofNat 32 h) = true := by
  induction fuel with
  | zero =>
    rintro s r hr - (ht | ⟨run, phase, start, e, ht, he, hlt⟩)
    · exact ⟨r, hr, r.dueWf_of_idle ht⟩
    · exact ⟨r, hr, RecordOf.dueWf_of_ahead hh ht he (by omega)⟩
  | succ fuel ih =>
    intro s r hr hpos hrep
    rcases s.replayDue_succ_cases i (frozen + BitVec.ofNat 32 h) fuel with ⟨due, hdue, hpast, hturn⟩ | ⟨hahead, hover⟩
    · obtain ⟨r₁, run, phase, start, hr₁, ht⟩ := s.dueAt_eq_some.mp hdue
      cases hr₁.symm.trans hr
      obtain ⟨e, rfl, he, hfuel⟩ := hrep.of_active ht
      have hle := (isPast_iff hh (ahead_lt hh he)).mp hpast
      rcases s.expire_cases i (frozen + BitVec.ofNat 32 e) with ⟨hnone, -⟩ | ⟨r₂, hr₂, hrw⟩
      · cases hnone.symm.trans hdue
      · cases hr₂.symm.trans hr
        obtain ⟨r', hr', hbegun, hcarries⟩ := hrw.recordAt
        rw [hturn]
        exact ih _ r' hr' (hcarries hpos).1 (hbegun.replayable hcarries hpos hle hfuel)
    · rw [hover]
      refine ⟨r, hr, ?_⟩
      rcases hrep with ht | ⟨run, phase, start, e, ht, he, -⟩
      · exact r.dueWf_of_idle ht
      · have hnot := hahead _ (s.dueAt_eq_some.mpr ⟨r, run, phase, start, hr, ht⟩)
        rw [isPast_iff hh (ahead_lt hh he), Nat.not_le] at hnot
        exact RecordOf.dueWf_of_ahead hh ht he hnot

section
variable {r : Record} {frozen : Time} {h : Nat}

/-- STRETCH keeps the distance of a RUNNING or LAPSED record, and makes a PARKED record's Remaining its distance (R167). -/
theorem RecordOf.dueWf_stretched (hr : r.dueWf .hold frozen = true) :
    (r.stretched h (frozen + BitVec.ofNat 32 h)).dueWf .hold (frozen + BitVec.ofNat 32 h) = true := by
  unfold RecordOf.stretched
  cases ht : r.timing with
  | idle => exact r.dueWf_of_idle ht
  | paused => exact (r.dueWf_paused_iff ht).mpr ((r.dueWf_paused_iff ht).mp hr)
  | active =>
    refine (RecordOf.dueWf_hold_iff rfl).mpr ?_
    rw [add_sub_add_right_eq_sub]
    exact (r.dueWf_hold_iff ht).mp hr
  | parked =>
    refine (RecordOf.dueWf_hold_iff rfl).mpr ?_
    rw [add_sub_cancel_left]
    exact (r.dueWf_parked_iff ht).mp hr

theorem RecordOf.periodsPos_unparked (hr : r.PeriodsPos) (frozen : Time) : RecordOf.PeriodsPos (r.unparked frozen) := by
  unfold RecordOf.unparked
  split <;> exact hr

/-- A distance from 1 to a period is one the replay of `h` ticks may begin with (R168 step 1). -/
theorem RecordOf.replayable_unparked (hr : r.dueWf .hold frozen = true)
    (hne : ∀ run phase remaining, r.timing ≠ .paused run phase remaining) :
    RecordOf.Replayable (r.unparked frozen) frozen h (h + 1) := by
  unfold RecordOf.unparked
  cases ht : r.timing with
  | idle => exact .inl ht
  | paused run phase remaining => exact absurd ht (hne run phase remaining)
  | active run phase start due =>
    obtain ⟨-, hle⟩ := (r.dueWf_hold_iff ht).mp hr
    refine .inr ⟨run, phase, start, (due - frozen).toNat, ?_, Nat.le_add_left_of_le hle, by omega⟩
    rw [BitVec.ofNat_toNat, BitVec.setWidth_eq, add_sub_cancel]
    exact ht
  | parked run phase remaining =>
    obtain ⟨-, hle⟩ := (r.dueWf_parked_iff ht).mp hr
    refine .inr ⟨run, phase, frozen + remaining - ticks (r.period phase), remaining.toNat, ?_, Nat.le_add_left_of_le hle, by omega⟩
    rw [BitVec.ofNat_toNat, BitVec.setWidth_eq]

/-- A record that is neither timing nor PARKED is in range at any Now if it is at one. -/
theorem RecordOf.dueWf_of_still {n m : Time} (hr : r.dueWf .hold n = true)
    (hactive : ∀ run phase start due, r.timing ≠ .active run phase start due)
    (hparked : ∀ run phase remaining, r.timing ≠ .parked run phase remaining) : r.dueWf .hold m = true := by
  cases ht : r.timing with
  | idle => exact r.dueWf_of_idle ht
  | paused => exact (r.dueWf_paused_iff ht).mpr ((r.dueWf_paused_iff ht).mp hr)
  | active => exact absurd ht (hactive _ _ _ _)
  | parked => exact absurd ht (hparked _ _ _)

end

/-- A visited record is left within its period of the new Now, whatever its Hold policy (R166 to R168). -/
theorem State.recordAt_treat {i : Fin 256} {r : Record} {frozen : Time} {h : Nat} (hh : h ≤ Config.holdMax) (unknown : Bool)
    (hr : s.recordAt i = some r) (hpos : r.PeriodsPos) (hd : r.dueWf .hold frozen = true)
    (hne : ∀ run phase remaining, r.timing ≠ .paused run phase remaining) :
    ∃ r', (s.treat frozen h unknown i).recordAt i = some r' ∧ r'.dueWf .hold (frozen + BitVec.ofNat 32 h) = true := by
  have hput : ∀ r' : Record, (s.putRecord i r').recordAt i = some r' := fun r' => by rw [s.recordAt_putRecord, if_pos rfl]
  unfold State.treat
  rw [hr]
  dsimp only
  split
  · exact ⟨_, hput _, r.dueWf_stretched hd⟩
  · exact State.recordAt_replayDue hh (h + 1) _ _ (hput _) (r.periodsPos_unparked hpos frozen) (r.replayable_unparked hd hne)

/-- A slot with a Due or a PARKED record holds a record that is not PAUSED. -/
theorem State.recordAt_of_visited {i : Fin 256} (h : (s.dueAt i).isSome = true ∨ (s.parkedAt i).isSome = true) :
    ∃ r, s.recordAt i = some r ∧ ∀ run phase remaining, r.timing ≠ .paused run phase remaining := by
  cases hr : s.recordAt i with
  | none => simp [State.dueAt, State.parkedAt, hr] at h
  | some r =>
    refine ⟨r, rfl, fun run phase remaining ht => ?_⟩
    simp [State.dueAt, State.parkedAt, hr, ht] at h

variable {s} in
/-- When each record with a Due, or PARKED, has been visited once, every due is in range at the new Now. -/
theorem State.tableDues_foldl_treat {frozen : Time} {h : Nat} (hh : h ≤ Config.holdMax) (unknown : Bool)
    (htable : s.TableDues .hold frozen) (hpos : s.PeriodsPos) {l : List (Fin 256)} (hnd : l.Nodup)
    (hvisits : ∀ i, i ∈ l ↔ (s.dueAt i).isSome = true ∨ (s.parkedAt i).isSome = true) :
    (l.foldl (fun u i => u.treat frozen h unknown i) s).TableDues .hold (frozen + BitVec.ofNat 32 h) := by
  intro i r hr
  by_cases hi : i ∈ l
  · obtain ⟨u, -, hslot, hfold⟩ := s.slots_foldl_of_mem (fun u i => u.treat frozen h unknown i)
      (fun u i => u.keeps_treat frozen h unknown i) (fun u i j => u.slots_treat_ne frozen h unknown i j) hnd hi
    obtain ⟨r₀, hr₀, hne⟩ := s.recordAt_of_visited ((hvisits i).mp hi)
    have hu : u.recordAt i = some r₀ := by rw [← hr₀]; simp only [State.recordAt, hslot]
    obtain ⟨r', hr', hd⟩ := u.recordAt_treat hh unknown hu (hpos i r₀ hr₀) (htable i r₀ hr₀) hne
    have hsame : r = r' := by
      rw [← Option.some_inj, ← hr, ← hr']
      simp only [State.recordAt, hfold]
    exact hsame ▸ hd
  · have hslot := s.slots_foldl_of_notMem (fun u i => u.treat frozen h unknown i)
      (fun u i j => u.slots_treat_ne frozen h unknown i j) hi
    have hr₀ : s.recordAt i = some r := by rw [← hr]; simp only [State.recordAt, hslot]
    rw [hvisits, not_or, Option.not_isSome_iff_eq_none, Option.not_isSome_iff_eq_none] at hi
    exact r.dueWf_of_still (htable i r hr₀) (s.dueAt_eq_none hi.1 hr₀) (s.parkedAt_eq_none hi.2 hr₀)


/-! ### Entering HOLD and RUN -/

section
variable {s : State}

/-- HOLD begins with every due still to come (R151). -/
theorem State.duesWf_enterHold (htable : s.TableDues .hold s.td.now) (himages : s.pr.ImagesDue) : s.enterHold.duesWf := by
  have hcounter : 0 ≤ Config.holdMax := Nat.zero_le _
  unfold State.enterHold
  dsimp only
  split
  · exact (State.duesWf_iff _).mpr ⟨htable, hcounter, himages.abandon rfl rfl⟩
  · exact (State.duesWf_iff _).mpr ⟨htable, hcounter, himages.invalidate _⟩

/-- RUN begins with every due still to come, or gives way to HOLD at once (R154). -/
theorem State.duesWf_enterRun (htable : s.TableDues .hold s.td.now) (hcounter : s.td.holdCounter ≤ Config.holdMax)
    (himages : s.pr.ImagesDue) : s.enterRun.duesWf := by
  unfold State.enterRun
  dsimp only
  split
  · exact State.duesWf_enterHold htable himages
  · exact (State.duesWf_iff _).mpr ⟨htable.of_hold, hcounter, himages⟩

theorem State.duesWf_endReconciliation {origin : ResumeOrigin} {h visited : Nat} {newNow : Time}
    (htable : s.TableDues .hold newNow) (hcounter : s.td.holdCounter ≤ Config.holdMax) (himages : s.pr.ImagesDue) :
    (s.endReconciliation origin h newNow visited).duesWf :=
  State.duesWf_enterRun htable hcounter himages

theorem State.nodup_visited (origin : ResumeOrigin) : (s.visited origin).Nodup := by
  cases origin <;> exact s.nodup_ordered _

/-- Reconciliation visits each record with a Due and each PARKED one, when the power state lets only the kind stand that its origin
orders (R166). -/
theorem State.mem_visited {origin : ResumeOrigin}
    (hbrownout : origin = .brownout → ∀ i, s.parkedAt i = none) (hresume : origin = .resume → ∀ i, s.dueAt i = none)
    (i : Fin 256) : i ∈ s.visited origin ↔ (s.dueAt i).isSome = true ∨ (s.parkedAt i).isSome = true := by
  cases origin with
  | brownout => simp [State.visited, s.mem_dueOrder, hbrownout rfl i, Option.isSome_iff_exists]
  | resume => simp [State.visited, s.mem_ordered, hresume rfl i]

/-- Reconciliation of any length leaves every due in range, and none at its instant (R166 to R169). -/
theorem State.duesWf_reconcile {origin : ResumeOrigin} {h : Nat} (hh : h ≤ Config.holdMax) (unknown : Bool)
    (htable : s.TableDues .hold s.td.now) (hpos : s.PeriodsPos) (hcounter : s.td.holdCounter ≤ Config.holdMax)
    (himages : s.pr.ImagesDue)
    (hbrownout : origin = .brownout → ∀ i, s.parkedAt i = none) (hresume : origin = .resume → ∀ i, s.dueAt i = none) :
    (s.reconcile origin h unknown).duesWf := by
  have hfold := State.tableDues_foldl_treat hh unknown htable hpos (State.nodup_visited origin)
    (State.mem_visited hbrownout hresume)
  have hkeep := s.keeps_foldl _ (fun u i => u.keeps_treat s.td.now h unknown i) (s.visited origin)
  exact State.duesWf_endReconciliation hfold (by rwa [hkeep.td]) (by rwa [hkeep.pr])

/-- Brownout reconciliation, whose H is the hold counter (R32). -/
theorem State.duesWf_brownout (htable : s.TableDues .hold s.td.now) (hpos : s.PeriodsPos)
    (hcounter : s.td.holdCounter ≤ Config.holdMax) (himages : s.pr.ImagesDue) (hparked : ∀ i, s.parkedAt i = none) :
    s.brownout.duesWf :=
  State.duesWf_reconcile hcounter false htable hpos hcounter himages (fun _ => hparked) nofun

end

end Sys2Proof.Machine
end

-- ==== Time and the due order: the range of dues, command by command ====
section
/-! SUPPORT. Every command keeps dues in range: what each owner does to the settled part, and the dispatch. -/

namespace Sys2Proof.Machine

/-! ### Commands -/

/-- A command that leads from a part with the invariants to one whose dues are in range. -/
def KeepsDues (run : State → Host.Outcome State Fault Refusal) : Prop :=
  ∀ s t : State, s.modesWf → s.recordsWf → s.duesWf → run s = .next t → t.duesWf

/-- An event meets the part settled. -/
theorem keepsDues_event {f : State → State} (hf : ∀ u : State, u.Timely → (f u).duesWf) : KeepsDues fun s => s.event f := by
  intro s t hm hw hd h
  cases h
  cases hs : s.supply with
  | true => rw [if_pos rfl]; exact hf _ (State.timely_settle hm hw hd)
  | false => rw [if_neg Bool.false_ne_true]; exact hd

section
variable {u : State}

/-- The tests on a frame leave all but the port to what a good frame does (R173). -/
theorem State.duesWf_judge {seq : Byte} {good : State → State} (hu : u.Timely)
    (hgood : ∀ v : State, v.Timely → (good v).duesWf) : (u.judge seq good).duesWf := by
  unfold State.judge
  split
  · exact hu.duesWf
  · split
    · exact hu.duesWf
    · exact hgood _ (hu.withPort _)

theorem State.duesWf_replay (hu : u.Timely) : u.replay.duesWf := by
  unfold State.replay
  split
  · exact hu.duesWf
  · exact hu.duesWf

/-- A request does to dues what its owner does (R176). -/
theorem State.duesWf_frameServed {seq : Byte} {a : Admission} {owner : State → Answer} (hu : u.Timely)
    (howner : ∀ v : State, v.Timely → v.refusal a = none → (owner v).state.duesWf) : (u.frameServed seq a owner).duesWf := by
  refine State.duesWf_judge hu fun v hv => ?_
  split
  · exact State.duesWf_replay hv
  · cases hr : v.refusal a with
    | some st => rw [v.serve_refused hr]; exact hv.duesWf
    | none => rw [v.serve_admitted hr]; exact howner v hv hr

theorem keepsDues_request {seq : Byte} {a : Admission} {owner : State → Answer}
    (howner : ∀ v : State, v.Timely → v.refusal a = none → (owner v).state.duesWf) :
    KeepsDues fun s => s.request seq a owner :=
  keepsDues_event fun _ hu => State.duesWf_frameServed hu howner

theorem State.power_of_refusal_run (h : u.refusal .run = none) : u.pr.power = .run := by
  unfold State.refusal at h
  cases hp : u.pr.power <;> simp_all

theorem State.power_of_refusal_resume (h : u.refusal .resume = none) : u.pr.power = .recovered := by
  unfold State.refusal at h
  cases hp : u.pr.power <;> simp_all

/-- A request that only RUN admits. -/
theorem keepsDues_request_run {seq : Byte} {owner : State → Answer}
    (howner : ∀ v : State, v.Timely → v.pr.power = .run → (owner v).state.duesWf) :
    KeepsDues fun s => s.request seq .run owner :=
  keepsDues_request fun v hv hr => howner v hv (State.power_of_refusal_run hr)

/-! ### What an operation in RUN has to show -/

theorem State.Timely.tableRun (hu : u.Timely) (hp : u.pr.power = .run) : u.TableDues .hold u.td.now :=
  hu.table (by rw [hp]; decide)

/-- Whatever changes neither the timebase nor the power unit has only the table to show. -/
theorem State.Timely.duesWf_of_table {t : State} (hu : u.Timely) (hp : u.pr.power = .run) (htd : t.td = u.td)
    (hpr : t.pr = u.pr) (ht : t.TableDues .run u.td.now) : t.duesWf := by
  rw [t.duesWf_iff, htd, hpr, hp]
  exact ⟨ht, hu.counter, hu.images⟩

theorem State.Timely.duesWf_putRecord (hu : u.Timely) (hp : u.pr.power = .run) (i : Fin 256) {r : Record}
    (hr : r.dueWf .run u.td.now = true) : (u.putRecord i r).duesWf :=
  hu.duesWf_of_table hp rfl rfl ((hu.tableRun hp).of_hold.putRecord hr)

/-- The record that a handle names is due within its period, and not yet. -/
theorem State.Timely.dueWf_recordOf (hu : u.Timely) (hp : u.pr.power = .run) {h : Handle} {r : Record}
    (hr : u.recordOf h = some r) : r.dueWf .hold u.td.now = true :=
  hu.tableRun hp h.slot r ((u.recordOf_eq_some h r).mp hr).2

/-! ### START, STOP, RESTART, PAUSE and CONTINUE -/

theorem State.duesWf_startRecord (hu : u.Timely) (hp : u.pr.power = .run) (h : Handle) : (u.startRecord h).state.duesWf := by
  unfold State.startRecord
  split
  · exact hu.duesWf
  · split
    · exact hu.duesWf
    · next hstart => exact hu.duesWf_putRecord hp _ (RecordOf.begun_start? hstart).dueWf

theorem State.duesWf_stopRecord (hu : u.Timely) (hp : u.pr.power = .run) (h : Handle) : (u.stopRecord h).state.duesWf := by
  unfold State.stopRecord
  split
  · exact hu.duesWf
  · split
    · exact hu.duesWf
    · next hstop => exact hu.duesWf_putRecord hp _ (RecordOf.begun_stop? hstop).dueWf

theorem State.duesWf_restartRecord (hu : u.Timely) (hp : u.pr.power = .run) (h : Handle) :
    (u.restartRecord h).state.duesWf := by
  unfold State.restartRecord
  split
  · exact hu.duesWf
  · split
    · exact hu.duesWf
    · next hrestart => exact hu.duesWf_putRecord hp _ (RecordOf.begun_restart? hrestart).dueWf

theorem State.duesWf_pauseRecord (hu : u.Timely) (hp : u.pr.power = .run) (h : Handle) : (u.pauseRecord h).state.duesWf := by
  unfold State.pauseRecord
  split
  · exact hu.duesWf
  · next hr =>
    split
    · exact hu.duesWf
    · next hpause => exact hu.duesWf_putRecord hp _ (RecordOf.dueWf_pause? (hu.dueWf_recordOf hp hr) hpause)

theorem State.duesWf_continueRecord (hu : u.Timely) (hp : u.pr.power = .run) (h : Handle) :
    (u.continueRecord h).state.duesWf := by
  unfold State.continueRecord
  split
  · exact hu.duesWf
  · next hr =>
    split
    · exact hu.duesWf
    · next hcont => exact hu.duesWf_putRecord hp _ (RecordOf.dueWf_continue? (hu.dueWf_recordOf hp hr) hcont)

/-! ### Groups -/

/-- A group request keeps dues in range when its operation does for each record (R92). -/
theorem State.duesWf_groupRequest (hu : u.Timely) (hp : u.pr.power = .run) (g : Fin 16) {op : Record → Option Record}
    (hop : ∀ r r' : Record, r.dueWf .hold u.td.now = true → op r = some r' → r'.dueWf .run u.td.now = true) :
    (u.groupRequest g op).state.duesWf := by
  refine hu.duesWf_of_table hp rfl rfl fun i r' hr' => ?_
  have hslot : (u.slots[i].groupOp g op).record = some r' := by
    rw [← hr']
    simp [State.recordAt, State.groupRequest]
  unfold Slot.groupOp at hslot
  split at hslot
  next r hr =>
    have hdue := hu.tableRun hp i r hr
    split at hslot
    · obtain rfl := Option.some.inj hslot
      cases hop' : op r with
      | none => exact RecordOf.dueWf_of_hold hdue
      | some r' => exact hop r r' hdue hop'
    · cases hr.symm.trans hslot
      exact RecordOf.dueWf_of_hold hdue
  next hnone => cases hnone.symm.trans hslot

theorem State.duesWf_startGroup (hu : u.Timely) (hp : u.pr.power = .run) (group option : Byte) :
    (u.startGroup group option).state.duesWf := by
  unfold State.startGroup
  split
  · exact State.duesWf_groupRequest hu hp _ fun _ _ _ h => (RecordOf.begun_groupStart? h).dueWf
  · exact hu.duesWf

theorem State.duesWf_stopGroup (hu : u.Timely) (hp : u.pr.power = .run) (group : Byte) : (u.stopGroup group).state.duesWf := by
  unfold State.stopGroup
  split
  · exact State.duesWf_groupRequest hu hp _ fun _ _ _ h => (RecordOf.begun_stop? h).dueWf
  · exact hu.duesWf

theorem State.duesWf_pauseGroup (hu : u.Timely) (hp : u.pr.power = .run) (group : Byte) : (u.pauseGroup group).state.duesWf := by
  unfold State.pauseGroup
  split
  · refine State.duesWf_groupRequest hu hp _ fun r r' hr h => ?_
    obtain ⟨⟨r', remaining⟩, hpause, rfl⟩ := Option.map_eq_some_iff.mp h
    exact RecordOf.dueWf_pause? hr hpause
  · exact hu.duesWf

theorem State.duesWf_continueGroup (hu : u.Timely) (hp : u.pr.power = .run) (group : Byte) :
    (u.continueGroup group).state.duesWf := by
  unfold State.continueGroup
  split
  · refine State.duesWf_groupRequest hu hp _ fun r r' hr h => ?_
    obtain ⟨⟨r', due⟩, hcont, rfl⟩ := Option.map_eq_some_iff.mp h
    exact RecordOf.dueWf_continue? hr hcont
  · exact hu.duesWf

theorem State.duesWf_joinGroup (hu : u.Timely) (hp : u.pr.power = .run) (h : Handle) (group : Byte) :
    (u.joinGroup h group).state.duesWf := by
  unfold State.joinGroup
  split
  · exact hu.duesWf
  · next r hr =>
    split
    · exact hu.duesWf
    · exact hu.duesWf_putRecord hp _ (r.dueWf_of_hold (hu.dueWf_recordOf hp hr))

theorem State.duesWf_leaveGroup (hu : u.Timely) (hp : u.pr.power = .run) (h : Handle) : (u.leaveGroup h).state.duesWf := by
  unfold State.leaveGroup
  split
  · exact hu.duesWf
  · next r hr => exact hu.duesWf_putRecord hp _ (r.dueWf_of_hold (hu.dueWf_recordOf hp hr))

/-! ### Renewals and edges -/

/-- A renewal leaves a record that begins a phase at its instant (R67, R70, R73 to R75). -/
theorem State.rewrites_renewAt {s : State} {i : Fin 256} {r : Record} {t : Time} {res : State × RenewOutcome}
    (h : s.renewAt i r t = some res) : s.Rewrites i r t res.1 := by
  unfold State.renewAt at h
  split at h
  · split at h <;> cases h
    · exact s.rewrites_fault i r .early t
    · exact s.rewrites_phaseA i r .running t r.cyclesLeft r.missCount
    · exact s.rewrites_phaseA i r .running t r.cyclesLeft r.missCount
  · cases h

theorem State.duesWf_renew (hu : u.Timely) (hp : u.pr.power = .run) (h : Handle) : (u.renew h).state.duesWf := by
  unfold State.renew
  split
  · exact hu.duesWf
  · split
    · exact hu.duesWf
    · split
      · exact hu.duesWf
      · next hrenew =>
        have hkeep := u.keeps_renewAt hrenew
        exact hu.duesWf_of_table hp hkeep.td hkeep.pr ((hu.tableRun hp).of_hold.rewrites (State.rewrites_renewAt hrenew))

/-- A trigger action leaves its record as it is, or a record that begins a phase at its instant (R108 to R111). -/
theorem State.edgeAction_cases (s : State) (t : Time) (i : Fin 256) :
    s.edgeAction t i = s ∨ (∃ r', r'.Begun t ∧ s.edgeAction t i = s.putRecord i r') ∨
      ∃ r res, s.renewAt i r t = some res ∧ s.edgeAction t i = res.1 := by
  unfold State.edgeAction
  split
  · exact .inl rfl
  · next r hr =>
    split
    · exact .inl rfl
    · split
      · cases h : r.start? t with
        | none => exact .inl rfl
        | some r' => exact .inr (.inl ⟨r', RecordOf.begun_start? h, rfl⟩)
      · cases h : r.restart? t with
        | none => exact .inl rfl
        | some r' => exact .inr (.inl ⟨r', RecordOf.begun_restart? h, rfl⟩)
      · split
        · cases h : s.renewAt i r t with
          | none => exact .inl rfl
          | some res => exact .inr (.inr ⟨r, res, h, rfl⟩)
        · exact .inl rfl

theorem State.keeps_edgeAction (s : State) (t : Time) (i : Fin 256) : s.Keeps (s.edgeAction t i) := by
  rcases s.edgeAction_cases t i with h | ⟨r', -, h⟩ | ⟨r, res, hrenew, h⟩
  · rw [h]; exact .refl s
  · rw [h]; exact s.keeps_putRecord i r'
  · rw [h]; exact s.keeps_renewAt hrenew

theorem State.TableDues.edgeAction {s : State} {t : Time} (hs : s.TableDues .run t) (i : Fin 256) :
    (s.edgeAction t i).TableDues .run t := by
  rcases s.edgeAction_cases t i with h | ⟨r', hbegun, h⟩ | ⟨r, res, hrenew, h⟩
  · rwa [h]
  · rw [h]; exact hs.putRecord hbegun.dueWf
  · rw [h]; exact hs.rewrites (State.rewrites_renewAt hrenew)

theorem State.TableDues.edgeActions {s : State} {t : Time} (hs : s.TableDues .run t) (l : List (Fin 256)) :
    (l.foldl (fun v i => v.edgeAction t i) s).TableDues .run t := by
  induction l generalizing s with
  | nil => exact hs
  | cons i l ih => exact ih (hs.edgeAction i)

/-- An edge acts at one Now in RUN, and outside RUN on no record (R101, R108, R113). -/
theorem State.duesWf_edge (hu : u.Timely) (l : Fin 8) : (u.edge l).duesWf := by
  unfold State.edge
  split
  · next hp =>
    have hkeep := u.keeps_foldl _ (fun v i => v.keeps_edgeAction u.td.now i) (u.slotsWhere fun r => r.boundTo l)
    exact hu.duesWf_of_table hp hkeep.td hkeep.pr ((hu.tableRun hp).of_hold.edgeActions _)
  all_goals exact hu.duesWf

/-- The lines are no part of it. -/
theorem State.Timely.withLines (hu : u.Timely) (l : Fin 8) (line : Line) : (u.putLine l line).Timely :=
  ⟨hu.table, hu.waiting, hu.counter, hu.images, hu.periods, hu.unparked, hu.untimed, hu.save⟩

theorem State.duesWf_accept (hu : u.Timely) (l : Fin 8) (level : Bool) : (u.accept l level).duesWf := by
  unfold State.accept
  dsimp only
  split
  · exact State.duesWf_edge (hu.withLines l _) l
  · exact hu.duesWf

/-! ### MODIFY (R15 to R22) -/

/-- A phase's period after a MODIFY wrote its timing values: the given one, or the one that stood (R19). -/
theorem RecordOf.period_write (r : Record) (v : Pending) (phase : Phase) :
    RecordOf.period (r.write v) phase = (v.period phase).getD (r.period phase) := by
  cases phase <;> rfl

/-- A record written over by what is rewritten in its slot does not matter. -/
theorem State.Rewrites.over_putRecord {s w : State} {i : Fin 256} {r r₁ : Record} {n : Time}
    (h : (s.putRecord i r₁).Rewrites i r n w) : s.Rewrites i r n w := by
  obtain ⟨r', hw, h⟩ := h
  exact ⟨r', by simpa using hw, h⟩

/-- R20: a given period greater than the elapsed part is met by a due one period after Phase start; one that is not makes an expiry at
Now. -/
theorem State.duesWf_retime (hu : u.Timely) (hp : u.pr.power = .run) (i : Fin 256) (r : Record) (v : Pending)
    (hr : r.dueWf .hold u.td.now = true) (hparked : ∀ run phase remaining, r.timing ≠ .parked run phase remaining)
    (hpaused : v ≠ Pending.none → r.timing.isPaused = false) : (u.retime i (r.write v) v).1.duesWf := by
  have htable : u.TableDues .run u.td.now := (hu.tableRun hp).of_hold
  unfold State.retime
  split
  · next run phase start due ht =>
    have hactive : r.timing = .active run phase start due := ht
    split
    · next hnone =>
      refine hu.duesWf_putRecord hp i ((RecordOf.dueWf_active_iff ht).mpr ⟨?_, nofun⟩)
      rw [RecordOf.period_write, hnone]
      exact ((r.dueWf_hold_iff hactive).mp hr).2
    · next p hsome =>
      split
      · next hlt =>
        refine hu.duesWf_putRecord hp i ((RecordOf.dueWf_active_iff rfl).mpr ⟨?_, nofun⟩)
        have hperiod : RecordOf.period (r.write v) phase = p := by rw [RecordOf.period_write, hsome]; rfl
        show (start + ticks p - u.td.now).toNat ≤ (ticks (RecordOf.period (r.write v) phase)).toNat
        rw [hperiod]
        bv_omega
      · have hkeep := (u.keeps_putRecord i (r.write v)).trans (State.keeps_expire _ i u.td.now)
        have hrec : (u.putRecord i (r.write v)).recordAt i = some (r.write v) := by rw [u.recordAt_putRecord, if_pos rfl]
        refine hu.duesWf_of_table hp hkeep.td hkeep.pr ?_
        rcases State.expire_cases (u.putRecord i (r.write v)) i u.td.now with ⟨hnone, -⟩ | ⟨r₁, -, hrw⟩
        · exact absurd ht (State.dueAt_eq_none _ hnone hrec run phase start due)
        · exact htable.rewrites hrw.over_putRecord
  · next hne =>
    refine hu.duesWf_putRecord hp i ?_
    cases ht : r.timing with
    | idle => exact RecordOf.dueWf_of_idle ht
    | active run phase start due => exact absurd ht (hne run phase start due)
    | parked run phase remaining => exact absurd ht (hparked run phase remaining)
    | paused run phase remaining =>
      have hv : v = Pending.none := by
        by_contra hv
        have := hpaused hv
        rw [ht] at this
        cases this
      subst hv
      exact r.dueWf_of_hold hr

theorem State.duesWf_modify (hu : u.Timely) (hp : u.pr.power = .run) (h : Handle) (b : ModifyBody) :
    (u.modify h b).state.duesWf := by
  unfold State.modify
  split
  · exact hu.duesWf
  next r hr =>
  have hdue := hu.dueWf_recordOf hp hr
  have hrec := ((u.recordOf_eq_some h r).mp hr).2
  have hparked := u.parkedAt_eq_none (hu.unparked (by rw [hp]; decide) (by rw [hp]; decide) h.slot) hrec
  split
  · exact hu.duesWf
  next m hm =>
  split
  · exact hu.duesWf
  split
  · exact hu.duesWf
  next hpaused =>
  show (u.applyModify h.slot r m).1.duesWf
  unfold State.applyModify
  split
  · exact hu.duesWf_putRecord hp _ (r.dueWf_of_hold hdue)
  · next himm =>
    refine State.duesWf_retime hu hp _ (r.modifyItems m) _ hdue hparked fun hv => ?_
    have himmediate : m.isImmediate = true := by simp [ModifyItems.isImmediate, hv, himm]
    rw [himmediate, Bool.true_and] at hpaused
    exact Bool.not_eq_true _ ▸ hpaused

/-! ### The other requests in RUN -/

theorem definedRecord_idle {d : DefineBody} {r : Record} (h : definedRecord d = some r) : r.timing = .idle := by
  unfold definedRecord at h
  repeat' split at h
  all_goals cases h
  rfl

theorem State.duesWf_define (hu : u.Timely) (hp : u.pr.power = .run) (d : DefineBody) : (u.define d).state.duesWf := by
  unfold State.define
  split
  · exact hu.duesWf
  next r hr =>
  split
  · exact hu.duesWf
  split
  · exact hu.duesWf
  next i _ =>
  refine hu.duesWf_of_table hp rfl rfl fun j r' hr' => ?_
  have hrec := u.recordAt_place i j r
  rw [hr'] at hrec
  split at hrec
  · cases hrec; exact RecordOf.dueWf_of_idle (definedRecord_idle hr)
  · exact (hu.tableRun hp).of_hold j r' hrec.symm

theorem State.duesWf_retire (hu : u.Timely) (hp : u.pr.power = .run) (h : Handle) : (u.retire h).state.duesWf := by
  unfold State.retire
  split
  · exact hu.duesWf
  split
  · exact hu.duesWf
  refine hu.duesWf_of_table hp rfl rfl fun j r' hr' => ?_
  have hrec := (u.dropEntry h).recordAt_freeRecord h.slot j
  rw [hr'] at hrec
  split at hrec
  · cases hrec
  · exact (hu.tableRun hp).of_hold j r' hrec.symm

theorem State.duesWf_clearPart (hu : u.Timely) : u.clearPart.state.duesWf := by
  have hfree : ∀ {p n}, u.freeAll.TableDues p n := State.tableDues_of_empty u.recordAt_freeAll
  unfold State.clearPart
  dsimp only
  split <;> exact (State.duesWf_iff _).mpr ⟨hfree, hu.counter, hu.images.abandon rfl rfl⟩

theorem State.duesWf_setTick (hu : u.Timely) (period : Byte) : (u.setTick period).state.duesWf := by
  unfold State.setTick
  repeat' split
  all_goals exact hu.duesWf

theorem State.duesWf_setLine (hu : u.Timely) (line edgeSelect filterWidth : Byte) :
    (u.setLine line edgeSelect filterWidth).state.duesWf := by
  unfold State.setLine
  split <;> exact hu.duesWf

theorem State.duesWf_bindRecord (hu : u.Timely) (hp : u.pr.power = .run) (h : Handle) (line action : Byte) :
    (u.bindRecord h line action).state.duesWf := by
  unfold State.bindRecord
  split
  · exact hu.duesWf
  next r hr =>
  split
  · split
    · exact hu.duesWf
    · exact hu.duesWf_putRecord hp _ (r.dueWf_of_hold (hu.dueWf_recordOf hp hr))
  · exact hu.duesWf

theorem State.duesWf_unbindRecord (hu : u.Timely) (hp : u.pr.power = .run) (h : Handle) :
    (u.unbindRecord h).state.duesWf := by
  unfold State.unbindRecord
  split
  · exact hu.duesWf
  · next r hr => exact hu.duesWf_putRecord hp _ (r.dueWf_of_hold (hu.dueWf_recordOf hp hr))

theorem State.duesWf_routeOutput (hu : u.Timely) (b : RouteBody) : (u.routeOutput b).state.duesWf := by
  unfold State.routeOutput
  repeat' split
  all_goals exact hu.duesWf

theorem State.duesWf_safeRequest (hu : u.Timely) : u.safeRequest.state.duesWf := by
  unfold State.safeRequest State.enterSafe
  split <;> exact hu.duesWf

theorem State.duesWf_releaseSafe (hu : u.Timely) : u.releaseSafe.state.duesWf := by
  unfold State.releaseSafe
  repeat' split
  all_goals exact hu.duesWf

/-- A snapshot in RUN, when no due is at its instant, has every Remaining in range (R160). -/
theorem State.duesWf_takeCheckpoint (hu : u.Timely) (hp : u.pr.power = .run) : u.takeCheckpoint.state.duesWf := by
  unfold State.takeCheckpoint
  split
  · exact hu.duesWf
  · refine (State.duesWf_iff _).mpr ⟨hu.tableDues, hu.counter, ?_, (hu.images.invalidate _).2⟩
    intro c hc
    cases hc
    exact (hu.tableRun hp).image .checkpoint _

/-! ### The requests of other power states -/

theorem State.duesWf_fetchEntry (hu : u.Timely) : u.fetchEntry.state.duesWf := by
  unfold State.fetchEntry
  repeat' split
  all_goals exact hu.duesWf

theorem State.duesWf_setThreshold (hu : u.Timely) (threshold : Byte) : (u.setThreshold threshold).state.duesWf := by
  unfold State.setThreshold
  split <;> exact hu.duesWf

theorem State.duesWf_query (hu : u.Timely) (h : Handle) : (u.query h).state.duesWf := by
  unfold State.query
  split <;> exact hu.duesWf

theorem State.duesWf_find (hu : u.Timely) (tag start : BitVec 16) : (u.find tag start).state.duesWf := by
  unfold State.find
  split <;> exact hu.duesWf

theorem State.duesWf_resumeRequest (hu : u.Timely) (hp : u.pr.power = .recovered) (outage : BitVec 32) :
    (u.resumeRequest outage).state.duesWf := by
  have htable := hu.table (by rw [hp]; decide)
  have hreconcile : ∀ {h : Nat}, h ≤ Config.holdMax → ∀ unknown : Bool, (u.reconcile .resume h unknown).duesWf :=
    fun hh unknown => State.duesWf_reconcile hh unknown htable hu.periods hu.counter hu.images nofun fun _ => hu.untimed hp
  unfold State.resumeRequest
  split
  · exact hreconcile (Nat.zero_le _) true
  · split
    · exact hu.duesWf
    · next hle => exact hreconcile (Nat.not_lt.mp hle) false

theorem State.duesWf_discardImage (hu : u.Timely) : u.discardImage.state.duesWf := by
  unfold State.discardImage
  exact State.duesWf_enterRun (State.tableDues_of_empty u.recordAt_freeAll) hu.counter
    ((hu.images.invalidate 0).invalidate 1)

/-! ### The power events -/

/-- LOADING begins with the table as it stands, whose dues may be at their instant there (R146, log 19). -/
theorem State.duesWf_beginLoading (h : u.duesWf) : u.beginLoading.duesWf := by
  obtain ⟨htable, -, himages⟩ := u.duesWf_iff.mp h
  have hloading : u.TableDues .loading u.td.now := htable.loosen (by decide) (by decide)
  exact (State.duesWf_iff _).mpr ⟨hloading, Nat.zero_le _, himages.abandon rfl rfl⟩

theorem State.duesWf_restore (hcounter : u.td.holdCounter ≤ Config.holdMax) (himages : u.pr.ImagesDue) {img : Image}
    (himg : img.duesWf) (levels : BitVec 8) : (u.restore img levels).duesWf :=
  (State.duesWf_iff _).mpr ⟨State.tableDues_of_image _ himg rfl _ _, hcounter, himages⟩

theorem State.duesWf_coldStart (hcounter : u.td.holdCounter ≤ Config.holdMax) (himages : u.pr.ImagesDue) (levels : BitVec 8) :
    (u.coldStart levels).duesWf :=
  State.duesWf_enterRun (State.tableDues_of_empty fun i => by simp [State.recordAt, freeSlot]) hcounter himages

end

theorem keepsDues_powerOn (pwarn rstn : Bool) : KeepsDues (execPowerOn pwarn rstn) := by
  intro s t _ _ hd h
  cases h
  exact State.duesWf_beginLoading hd

theorem keepsDues_supplyLost : KeepsDues execSupplyLost :=
  keepsDues_event fun _ hu => (State.duesWf_iff _).mpr ⟨hu.tableDues, hu.counter, hu.images.abandon rfl rfl⟩

theorem keepsDues_storeContentsLost : KeepsDues execStoreContentsLost := by
  intro s t _ _ hd h
  cases h
  split
  · exact hd
  · obtain ⟨htable, hcounter, himages⟩ := s.duesWf_iff.mp hd
    refine (State.duesWf_iff _).mpr ⟨htable, hcounter, himages.1, fun b st hst => ?_⟩
    simp [emptyBank] at hst

theorem keepsDues_rstnAsserted : KeepsDues execRstnAsserted :=
  keepsDues_event fun _ hu => State.duesWf_beginLoading hu.duesWf

theorem keepsDues_rstnReleased : KeepsDues execRstnReleased := keepsDues_event fun _ hu => hu.duesWf

theorem keepsDues_loadingComplete (levels : BitVec 8) : KeepsDues (execLoadingComplete levels) :=
  keepsDues_event fun u hu => by
    split
    · dsimp only
      split
      · next himg =>
        have himages : PowerUnit.ImagesDue { u.pr with banks := u.pr.store.map Bank.judge } := hu.images
        refine State.duesWf_restore ?_ himages (himages.selected himg) levels
        exact hu.counter
      · refine State.duesWf_coldStart ?_ ?_ levels
        · exact hu.counter
        · exact hu.images
    · exact hu.duesWf

theorem keepsDues_pwarnAsserted : KeepsDues execPwarnAsserted :=
  keepsDues_event fun u hu => by
    dsimp only
    split
    · next hp => exact State.duesWf_enterHold (hu.tableRun hp) hu.images
    · exact hu.duesWf

theorem keepsDues_pwarnWithdrawn : KeepsDues execPwarnWithdrawn :=
  keepsDues_event fun u hu => by
    dsimp only
    split
    · next hp =>
      exact State.duesWf_brownout (hu.table (by rw [hp]; decide)) hu.periods hu.counter hu.images
        (hu.unparked (by rw [hp]; decide) (by rw [hp]; decide))
    · exact hu.duesWf

/-- The save is complete in HOLD, where every due is still to come: the image has every Remaining in range, and reconciliation may
begin (R153). -/
theorem keepsDues_holdSaveComplete : KeepsDues execHoldSaveComplete :=
  keepsDues_event fun u hu => by
    split
    · exact hu.duesWf
    · next f hf =>
      have hp : u.pr.power = .hold := hu.save (by rw [hf]; rfl)
      have htable := hu.table (by rw [hp]; decide)
      have himages := hu.images.written f.bank (htable.image .holdSave f.generation)
      dsimp only
      split
      · exact (State.duesWf_iff _).mpr ⟨htable.of_hold, hu.counter, himages⟩
      · exact State.duesWf_brownout htable hu.periods hu.counter himages
          (hu.unparked (by rw [hp]; decide) (by rw [hp]; decide))

theorem PowerUnit.power_written (p : PowerUnit) (b : Fin 2) (img : Image) : (p.written b img).power = p.power := by
  unfold PowerUnit.written
  dsimp only
  repeat' split
  all_goals rfl

theorem keepsDues_checkpointComplete : KeepsDues execCheckpointComplete :=
  keepsDues_event fun u hu => by
    split
    · exact hu.duesWf
    · next c hc =>
      have himages := hu.images.written c.bank (hu.images.1 c hc)
      refine (State.duesWf_iff _).mpr ⟨?_, hu.counter, himages.abandon rfl rfl⟩
      show u.TableDues (u.pr.written c.bank c.snapshot).power u.td.now
      rw [PowerUnit.power_written]
      exact hu.tableDues

/-- One tick on, in RUN no due that was still to come is passed over (R29, R39). -/
theorem keepsDues_tick : KeepsDues execTick :=
  keepsDues_event fun u hu => by
    have hcount : (if u.td.holdCounter < Config.holdMax then u.td.holdCounter + 1 else u.td.holdCounter) ≤ Config.holdMax := by
      have := hu.counter
      split <;> omega
    split
    · exact hu.duesWf
    · next hp =>
      refine (State.duesWf_iff _).mpr ⟨fun i r hr => ?_, hu.counter, hu.images⟩
      show r.dueWf u.pr.power (u.td.now + 1) = true
      rw [hp]
      exact r.dueWf_tick (hu.tableRun hp i r hr)
    · exact (State.duesWf_iff _).mpr ⟨hu.tableDues, hcount, hu.images⟩
    · exact (State.duesWf_iff _).mpr ⟨hu.tableDues, hcount, hu.images⟩
    · exact hu.duesWf

/-- EXPIRY takes the first expiry in RUN at Now. -/
theorem keepsDues_expiry : KeepsDues execExpiry := by
  intro s t _ _ hd h
  cases h
  obtain ⟨htable, hcounter, himages⟩ := s.duesWf_iff.mp hd
  split
  · split
    · next i _ hp _ =>
      have hkeep := s.keeps_expire i s.td.now
      rw [hp] at htable
      refine (State.duesWf_iff _).mpr ?_
      rw [hkeep.td, hkeep.pr, hp]
      exact ⟨htable.expire i, hcounter, himages⟩
    · exact hd
  · exact hd

theorem keepsDues_hrstPulseEnd : KeepsDues execHrstPulseEnd := keepsDues_event fun _ hu => hu.duesWf

/-! ### Lines and the port -/

theorem keepsDues_candidateAccepted (l : Fin 8) : KeepsDues (execCandidateAccepted l) :=
  keepsDues_event fun u hu => by
    split
    · exact hu.duesWf
    · exact hu.duesWf
    · exact State.duesWf_accept hu l _

theorem keepsDues_sampledLevelChange (l : Fin 8) (level : Bool) : KeepsDues (execSampledLevelChange l level) :=
  keepsDues_event fun u hu => by
    dsimp only
    split
    · exact hu.duesWf
    · split
      · exact hu.duesWf
      · split
        · exact State.duesWf_accept hu l level
        · split <;> exact hu.duesWf

theorem keepsDues_csnFallingEdge (soon : Bool) : KeepsDues (execCsnFallingEdge soon) :=
  keepsDues_event fun u hu => by
    split <;> exact hu.duesWf

theorem keepsDues_ignoredFrame : KeepsDues execIgnoredFrame :=
  keepsDues_event fun u hu => by
    split <;> exact hu.duesWf

theorem keepsDues_starting (bytes : List Byte) : KeepsDues (execStarting bytes) :=
  keepsDues_event fun u hu => by
    split
    · exact hu.duesWf
    · split
      · exact State.duesWf_judge hu fun _ hv => hv.duesWf
      · exact hu.duesWf

theorem keepsDues_frameError (bytes : List Byte) : KeepsDues (execFrameError bytes) :=
  keepsDues_event fun u hu => by
    split
    · exact State.duesWf_judge hu fun _ hv => hv.duesWf
    · exact hu.duesWf

theorem keepsDues_duplicate (seq code : Byte) (body : List Byte) : KeepsDues (execDuplicate seq code body) :=
  keepsDues_event fun u hu => by
    split
    · exact State.duesWf_judge hu fun _ hv => State.duesWf_replay hv
    · exact hu.duesWf

theorem keepsDues_badRequest (seq code : Byte) (body : List Byte) : KeepsDues (execBadRequest seq code body) :=
  keepsDues_event fun u hu => by
    split
    · exact hu.duesWf
    · refine State.duesWf_judge hu fun v hv => ?_
      split
      · exact State.duesWf_replay hv
      · exact hv.duesWf

/-! ### Every command and every step -/

/-- Every command keeps dues in range. -/
theorem keepsDues_exec (c : Instr) : KeepsDues (exec c) := by
  cases c with
  | powerOn pwarn rstn => exact keepsDues_powerOn pwarn rstn
  | supplyLost => exact keepsDues_supplyLost
  | rstnAsserted => exact keepsDues_rstnAsserted
  | rstnReleased => exact keepsDues_rstnReleased
  | loadingComplete levels => exact keepsDues_loadingComplete levels
  | pwarnAsserted => exact keepsDues_pwarnAsserted
  | pwarnWithdrawn => exact keepsDues_pwarnWithdrawn
  | holdSaveComplete => exact keepsDues_holdSaveComplete
  | checkpointComplete => exact keepsDues_checkpointComplete
  | tick => exact keepsDues_tick
  | expiry => exact keepsDues_expiry
  | hrstPulseEnd => exact keepsDues_hrstPulseEnd
  | candidateAccepted l => exact keepsDues_candidateAccepted l
  | ignoredFrame => exact keepsDues_ignoredFrame
  | emptyFrame => exact keepsDues_event fun _ hu => hu.duesWf
  | starting bytes => exact keepsDues_starting bytes
  | frameError bytes => exact keepsDues_frameError bytes
  | duplicate seq code body => exact keepsDues_duplicate seq code body
  | badRequest seq code body => exact keepsDues_badRequest seq code body
  | nop seq => exact keepsDues_request fun _ hv _ => hv.duesWf
  | status seq => exact keepsDues_request fun _ hv _ => hv.duesWf
  | clear seq => exact keepsDues_request_run fun _ hv _ => State.duesWf_clearPart hv
  | define seq d => exact keepsDues_request_run fun _ hv hp => State.duesWf_define hv hp d
  | retire seq h => exact keepsDues_request_run fun _ hv hp => State.duesWf_retire hv hp h
  | query seq h => exact keepsDues_request fun _ hv _ => State.duesWf_query hv h
  | find seq tag start => exact keepsDues_request fun _ hv _ => State.duesWf_find hv tag start
  | modify seq h m => exact keepsDues_request_run fun _ hv hp => State.duesWf_modify hv hp h m
  | setTick seq period => exact keepsDues_request_run fun _ hv _ => State.duesWf_setTick hv period
  | start seq h => exact keepsDues_request_run fun _ hv hp => State.duesWf_startRecord hv hp h
  | stop seq h => exact keepsDues_request_run fun _ hv hp => State.duesWf_stopRecord hv hp h
  | restart seq h => exact keepsDues_request_run fun _ hv hp => State.duesWf_restartRecord hv hp h
  | pause seq h => exact keepsDues_request_run fun _ hv hp => State.duesWf_pauseRecord hv hp h
  | continueRecord seq h => exact keepsDues_request_run fun _ hv hp => State.duesWf_continueRecord hv hp h
  | renew seq h => exact keepsDues_request_run fun _ hv hp => State.duesWf_renew hv hp h
  | join seq h group => exact keepsDues_request_run fun _ hv hp => State.duesWf_joinGroup hv hp h group
  | leave seq h => exact keepsDues_request_run fun _ hv hp => State.duesWf_leaveGroup hv hp h
  | groupStart seq group option => exact keepsDues_request_run fun _ hv hp => State.duesWf_startGroup hv hp group option
  | groupStop seq group => exact keepsDues_request_run fun _ hv hp => State.duesWf_stopGroup hv hp group
  | groupPause seq group => exact keepsDues_request_run fun _ hv hp => State.duesWf_pauseGroup hv hp group
  | groupContinue seq group => exact keepsDues_request_run fun _ hv hp => State.duesWf_continueGroup hv hp group
  | setLine seq l e w => exact keepsDues_request_run fun _ hv _ => State.duesWf_setLine hv l e w
  | bind seq h l a => exact keepsDues_request_run fun _ hv hp => State.duesWf_bindRecord hv hp h l a
  | unbind seq h => exact keepsDues_request_run fun _ hv hp => State.duesWf_unbindRecord hv hp h
  | route seq b => exact keepsDues_request_run fun _ hv _ => State.duesWf_routeOutput hv b
  | safe seq => exact keepsDues_request_run fun _ hv _ => State.duesWf_safeRequest hv
  | release seq => exact keepsDues_request_run fun _ hv _ => State.duesWf_releaseSafe hv
  | fetch seq => exact keepsDues_request fun _ hv _ => State.duesWf_fetchEntry hv
  | setAttn seq threshold => exact keepsDues_request fun _ hv _ => State.duesWf_setThreshold hv threshold
  | checkpoint seq => exact keepsDues_request_run fun _ hv hp => State.duesWf_takeCheckpoint hv hp
  | resume seq outage =>
    exact keepsDues_request fun _ hv hr => State.duesWf_resumeRequest hv (State.power_of_refusal_resume hr) outage
  | discard seq => exact keepsDues_request fun _ hv _ => State.duesWf_discardImage hv
  | sampledLevelChange l level => exact keepsDues_sampledLevelChange l level
  | csnFallingEdge soon => exact keepsDues_csnFallingEdge soon
  | storeContentsLost => exact keepsDues_storeContentsLost

/-- The idle step moves neither Now nor a record. -/
theorem State.duesWf_idle {s : State} (h : s.duesWf) : s.idle.duesWf := by
  unfold State.idle
  repeat' split
  all_goals exact h

/-- Settles O56: a step runs a command, each of which keeps dues in range from the settled part on, or idles. -/
theorem duesKept : Obligations.DuesKept := by
  intro s t hm hw hd h
  unfold step at h
  split at h
  · cases h
    exact State.duesWf_idle hd
  · next c rest _ => exact keepsDues_exec c { s with pending := rest } t hm hw hd h

end Sys2Proof.Machine
end

-- ==== One-shot and cadence records: expiries ====
section
/-! SUPPORT. Which expiry EXPIRY takes (R40), what an expiry is for each kind and phase, and the end of a cycle (R53 to R58, R72). -/

namespace Sys2Proof.Machine

variable {s : State} {i : Fin 256} {r : Record} {run : Run} {phase : Phase} {start due : Time}

/-! ### EXPIRY (R40) -/

/-- A record that comes before every other whose due has come is at the front of those. -/
theorem State.dueNow_eq_cons (h : s.firstDue i) : ∃ rest, s.dueNow = i :: rest := by
  obtain ⟨-, -, hdue, hfirst⟩ := h
  have hmem : i ∈ s.dueNow := s.mem_dueNow.mpr hdue
  have hsorted := s.pairwise_dueNow
  cases hl : s.dueNow with
  | nil => rw [hl] at hmem; cases hmem
  | cons j rest =>
    have hj : s.dueAt j = some s.td.now := s.mem_dueNow.mp (hl ▸ List.mem_cons_self)
    rw [hl] at hmem hsorted
    rcases List.mem_cons.mp hmem with rfl | hrest
    · exact ⟨rest, rfl⟩
    · have hji := (List.pairwise_cons.mp hsorted).1 i hrest
      have hij := hfirst j (fun e => by subst e; omega) hj
      rw [Fin.lt_def] at hji
      omega

theorem State.exec_expiry (h : s.firstDue i) : exec .expiry s = .next (s.expire i s.td.now) := by
  obtain ⟨rest, hl⟩ := s.dueNow_eq_cons h
  obtain ⟨hsupply, hrun, -, -⟩ := h
  rw [show exec .expiry s = execExpiry s from rfl]
  simp only [execExpiry, hsupply, hrun, hl, if_true]

/-- What a slot's expiry is at every instant, it is when EXPIRY takes it at Now. -/
theorem State.expiry_taken {expired : Time → State} (h : ∀ n, s.expire i n = expired n) :
    (∀ n, s.expire i n = expired n) ∧ (s.firstDue i → exec .expiry s = .next (expired s.td.now)) :=
  ⟨h, fun hfirst => (s.exec_expiry hfirst).trans (congrArg _ (h _))⟩

/-! ### The expiry of each kind and phase -/

theorem State.expire_oneshot (hr : s.recordAt i = some r) (ht : r.timing = .active run phase start due) (hk : r.kind = .oneshot)
    (n : Time) : s.expire i n = s.completeRecord i r n := by
  simp only [State.expire, hr, ht, hk]

theorem State.expire_cadence_phaseA (hr : s.recordAt i = some r) (ht : r.timing = .active run .a start due)
    (hk : r.kind = .cadence) (n : Time) : s.expire i n = s.phaseAEnd i r .running n := by
  simp only [State.expire, hr, ht, hk]

theorem State.expire_cadence_phaseB (hr : s.recordAt i = some r) (ht : r.timing = .active run .b start due)
    (hk : r.kind = .cadence) (n : Time) : s.expire i n = s.cycleEnd i r n := by
  simp only [State.expire, hr, ht, hk]

theorem State.expire_window_phaseA (hr : s.recordAt i = some r) (ht : r.timing = .active run .a start due)
    (hk : r.kind = .window) (n : Time) : s.expire i n = s.phaseAEnd i r run n := by
  simp only [State.expire, hr, ht, hk]

/-! ### The end of a cycle (R56 to R58) -/

/-- The next cycle begins phase A, with Cycles left from a Repeat count that the pending update held, or else as counted (R58). -/
theorem RecordOf.nextCycle_eq (r : Record) (left : Option (BitVec 16)) (n : Time) {counted : Option (BitVec 16)}
    (h : r.pending.repeatCount.elim left cyclesOf = counted) :
    r.nextCycle left n = { r.phaseAFrom .running n with cyclesLeft := counted } := by
  unfold RecordOf.nextCycle
  split
  next hstaged =>
    rw [hstaged] at h
    cases h
    rfl
  next hunstaged =>
    rw [hunstaged] at h
    cases h
    rfl

/-- An unbounded record goes on without end. -/
theorem State.cycleEnd_unbounded (h : r.cyclesLeft = none) (n : Time) :
    s.cycleEnd i r n = (if r.notify.cycle = true then s.post i r .cycle n else s).putRecord i (r.nextCycle none n) := by
  simp only [State.cycleEnd, h]

/-- The last cycle of a bounded record is its completion. -/
theorem State.cycleEnd_last (h : r.cyclesLeft = some 1) (n : Time) :
    s.cycleEnd i r n = (if r.notify.cycle = true then s.post i r .cycle n else s).completeRecord i r n := by
  simp only [State.cycleEnd, h, sub_self, if_true]

theorem State.cycleEnd_bounded {k : BitVec 16} (h : r.cyclesLeft = some k) (hk : k ≠ 1) (n : Time) :
    s.cycleEnd i r n =
      (if r.notify.cycle = true then s.post i r .cycle n else s).putRecord i (r.nextCycle (some (k - 1)) n) := by
  simp only [State.cycleEnd, h, if_neg (sub_ne_zero.mpr hk)]

/-! ### The statements -/

/-- Settles O21: a ONESHOT record's expiry is its completion. -/
theorem oneshotExpiry : Obligations.OneshotExpiry := by
  intro s i r run phase start due hr ht hk
  exact State.expiry_taken fun n => State.expire_oneshot hr ht hk n

/-- Settles O22: both kinds end phase A alike, and a CADENCE record is RUNNING when it does. -/
theorem phaseAExpiry : Obligations.PhaseAExpiry := by
  intro s i r run start due hr ht hk
  refine State.expiry_taken fun n => ?_
  rcases hk with ⟨hk, rfl⟩ | hk
  · exact State.expire_cadence_phaseA hr ht hk n
  · exact State.expire_window_phaseA hr ht hk n

/-- Settles O23, by whether Cycles left is absent, 1, or more. -/
theorem cadenceCycleEnd : Obligations.CadenceCycleEnd := by
  intro s i r start due hr hk ht
  refine State.expiry_taken fun n => ?_
  rw [State.expire_cadence_phaseB hr ht hk]
  cases hleft : r.cyclesLeft with
  | none =>
    rw [State.cycleEnd_unbounded hleft]
    refine congrArg (State.putRecord _ i) (r.nextCycle_eq none n ?_)
    cases r.pending.repeatCount <;> rfl
  | some k =>
    dsimp only
    split
    next hlast =>
      rw [State.cycleEnd_last (hlast ▸ hleft)]
      rfl
    next hmore =>
      rw [State.cycleEnd_bounded hleft hmore]
      refine congrArg (State.putRecord _ i) (r.nextCycle_eq (some (k - 1)) n ?_)
      cases r.pending.repeatCount <;> rfl

end Sys2Proof.Machine
end

-- ==== One-shot and cadence records: START, STOP, RESTART, PAUSE and CONTINUE ====
section
/-! SUPPORT. Which records the five timing operations apply to and what they make of them (R44 to R51), and how the requests that carry
them are answered (R43). -/

namespace Sys2Proof.Machine

/-! ### The operations on a record -/

section
variable {r : Record} {run : Run} {phase : Phase} {start due remaining : Time}

theorem RecordOf.startedAt_eq (r : Record) (t : Time) :
    r.startedAt t =
      { r with
        periodA := r.pending.periodA.getD r.periodA
        periodB := r.pending.periodB.getD r.periodB
        repeatCount := r.pending.repeatCount.getD r.repeatCount
        pending := ⟨none, none, none⟩
        timing := .active .running .a t (t + ticks (r.pending.periodA.getD r.periodA))
        cyclesLeft := if r.kind = .cadence ∧ r.pending.repeatCount.getD r.repeatCount ≠ 0 then
          some (r.pending.repeatCount.getD r.repeatCount) else none } := by
  have hleft : ∀ n : BitVec 16, (if r.kind = .cadence then cyclesOf n else none) =
      if r.kind = .cadence ∧ n ≠ 0 then some n else none := fun n => by
    by_cases hk : r.kind = .cadence <;> by_cases hn : n = 0 <;> simp [cyclesOf, hk, hn]
  rw [RecordOf.startedAt, hleft]
  rfl

/-- START applies to an IDLE record alone (R44). -/
theorem RecordOf.start?_of_idle (ht : r.timing = .idle) (t : Time) : r.start? t = some (r.startedAt t) := by
  simp only [RecordOf.start?, ht]

theorem RecordOf.start?_eq_none (ht : r.timing ≠ .idle) (t : Time) : r.start? t = none := by
  unfold RecordOf.start?
  split
  next hidle => exact absurd hidle ht
  next => rfl

theorem RecordOf.stop?_of_idle (ht : r.timing = .idle) : r.stop? = none := by simp only [RecordOf.stop?, ht]

/-- STOP applies to a record that is timing or PAUSED (R46). -/
theorem RecordOf.stop?_of_state (h : r.timing.state = .running ∨ r.timing.state = .paused ∨ r.timing.state = .lapsed) :
    r.stop? = some r.stopped := by
  unfold RecordOf.stop?
  cases ht : r.timing with
  | active | paused => rfl
  | idle | parked => simp [ht, Timing.state] at h

/-- RESTART applies to a record that is IDLE or timing (R48). -/
theorem RecordOf.restart?_of_state (h : r.timing.state = .idle ∨ r.timing.state = .running ∨ r.timing.state = .lapsed) (t : Time) :
    r.restart? t = some (r.startedAt t) := by
  unfold RecordOf.restart?
  cases ht : r.timing with
  | idle | active => rfl
  | paused | parked => simp [ht, Timing.state] at h

theorem RecordOf.restart?_of_paused (h : r.timing.state = .paused) (t : Time) : r.restart? t = none := by
  unfold RecordOf.restart?
  cases ht : r.timing with
  | paused | parked => rfl
  | idle => simp [ht, Timing.state] at h
  | active run => cases run <;> simp [ht, Timing.state] at h

/-- PAUSE keeps what is left of the phase (R50). -/
theorem RecordOf.pause?_of_active (ht : r.timing = .active run phase start due) (t : Time) :
    r.pause? t = some ({ r with timing := .paused run phase (due - t) }, due - t) := by
  simp only [RecordOf.pause?, ht]

theorem RecordOf.pause?_eq_none (h : r.timing.state = .idle ∨ r.timing.state = .paused) (t : Time) : r.pause? t = none := by
  unfold RecordOf.pause?
  cases ht : r.timing with
  | idle | paused | parked => rfl
  | active run => cases run <;> simp [ht, Timing.state] at h

/-- CONTINUE times out what was left, as if the phase had begun that much less than its period ago (R51). -/
theorem RecordOf.continue?_of_paused (ht : r.timing = .paused run phase remaining) (t : Time) :
    r.continue? t =
      some ({ r with timing := .active run phase (t + remaining - ticks (r.period phase)) (t + remaining) }, t + remaining) := by
  simp only [RecordOf.continue?, ht]

theorem RecordOf.continue?_eq_none (h : r.timing.state = .idle ∨ r.timing.state = .running ∨ r.timing.state = .lapsed) (t : Time) :
    r.continue? t = none := by
  unfold RecordOf.continue?
  cases ht : r.timing with
  | idle | active | parked => rfl
  | paused => simp [ht, Timing.state] at h

/-- Of the states that STOP leaves, STOP answers the number that QUERY gives (R182, log 13). -/
theorem Timing.code_of_state (t : Timing) :
    (t.state = .running → t.code = 1) ∧ (t.state = .paused → t.code = 2) ∧ (t.state = .lapsed → t.code = 3) := by
  cases t with
  | active run => cases run <;> simp [Timing.state, Timing.code, Run.code]
  | idle | paused | parked => simp [Timing.state, Timing.code]

end

/-! ### The requests at the record table -/

section
variable {s : State} {h : Handle} {r r' : Record} {x : Time} (hr : s.recordOf h = some r)
include hr

theorem State.startRecord_eq (hop : r.start? s.td.now = some r') :
    s.startRecord h = ⟨s.putRecord h.slot r', .done, bytes32 (s.td.now + ticks r'.periodA)⟩ := by
  simp only [State.startRecord, hr, hop]

theorem State.startRecord_refused (hop : r.start? s.td.now = none) : s.startRecord h = ⟨s, .badState, []⟩ := by
  simp only [State.startRecord, hr, hop, refuse]

theorem State.stopRecord_eq (hop : r.stop? = some r') :
    s.stopRecord h = ⟨s.putRecord h.slot r', .done, [r.timing.code]⟩ := by
  simp only [State.stopRecord, hr, hop]

theorem State.stopRecord_unchanged (hop : r.stop? = none) : s.stopRecord h = ⟨s, .done, [r.timing.code]⟩ := by
  simp only [State.stopRecord, hr, hop]

theorem State.restartRecord_eq (hop : r.restart? s.td.now = some r') :
    s.restartRecord h = ⟨s.putRecord h.slot r', .done, bytes32 (s.td.now + ticks r'.periodA)⟩ := by
  simp only [State.restartRecord, hr, hop]

theorem State.restartRecord_refused (hop : r.restart? s.td.now = none) : s.restartRecord h = ⟨s, .badState, []⟩ := by
  simp only [State.restartRecord, hr, hop, refuse]

theorem State.pauseRecord_eq (hop : r.pause? s.td.now = some (r', x)) :
    s.pauseRecord h = ⟨s.putRecord h.slot r', .done, bytes24 (x.setWidth 24)⟩ := by
  simp only [State.pauseRecord, hr, hop]

theorem State.pauseRecord_refused (hop : r.pause? s.td.now = none) : s.pauseRecord h = ⟨s, .badState, []⟩ := by
  simp only [State.pauseRecord, hr, hop, refuse]

theorem State.continueRecord_eq (hop : r.continue? s.td.now = some (r', x)) :
    s.continueRecord h = ⟨s.putRecord h.slot r', .done, bytes32 x⟩ := by
  simp only [State.continueRecord, hr, hop]

theorem State.continueRecord_refused (hop : r.continue? s.td.now = none) : s.continueRecord h = ⟨s, .badState, []⟩ := by
  simp only [State.continueRecord, hr, hop, refuse]

end

/-- An accepted request in RUN whose owner answers, at the part with the frame ended, that it leaves `u` outside the port. -/
theorem State.exec_of_owner {s u : State} {c : Instr} {seq : Byte} {owner : State → Answer} {st : Status} {body : List Byte}
    (hc : ∀ s : State, exec c s = s.request seq .run owner) (hready : s.ready .run seq)
    (howner : owner s.endFrame = ⟨u.endFrame, st, body⟩) : exec c s = .next (u.answering seq st body) := by
  rw [hc, s.request_run hready, howner]
  rfl

/-- The end of its frame leaves the record that a handle names. -/
theorem State.recordOf_endFrame (s : State) (h : Handle) : s.endFrame.recordOf h = s.recordOf h := rfl

/-! ### The statements -/

/-- Settles O28: START applies to an IDLE record, and the power state turns it away outside RUN. -/
theorem startDecided : Obligations.StartDecided := by
  refine ⟨fun seq h => refusedOutsideRun_of_request fun _ => rfl, fun s seq h r hready hr => ?_⟩
  rw [← s.recordOf_endFrame] at hr
  refine ⟨fun ht => ?idle, fun ht => ?other⟩
  case idle =>
    have hop := (r.start?_of_idle ht s.td.now).trans (congrArg some (r.startedAt_eq _))
    exact State.exec_of_owner (fun _ => rfl) hready (State.startRecord_eq hr hop)
  case other =>
    exact State.exec_of_owner (fun _ => rfl) hready (State.startRecord_refused hr (r.start?_eq_none ht _))

/-- Settles O29: STOP applies to a record that is timing or PAUSED, and the answer's number is that of the state it had. -/
theorem stopDecided : Obligations.StopDecided := by
  intro s seq h r hready hr
  rw [← s.recordOf_endFrame] at hr
  obtain ⟨hrunning, hpaused, hlapsed⟩ := r.timing.code_of_state
  have hstop (hstate : r.timing.state = .running ∨ r.timing.state = .paused ∨ r.timing.state = .lapsed) :
      exec (.stop seq h) s = .next ((s.putRecord h.slot r.stopped).answering seq .done [r.timing.code]) :=
    State.exec_of_owner (fun _ => rfl) hready (State.stopRecord_eq hr (RecordOf.stop?_of_state hstate))
  refine ⟨fun ht => ?idle, fun ht => ?running, fun ht => ?paused, fun ht => ?lapsed⟩
  case idle =>
    have hcode : r.timing.code = 0 := congrArg Timing.code ht
    rw [← hcode]
    exact State.exec_of_owner (fun _ => rfl) hready (State.stopRecord_unchanged hr (r.stop?_of_idle ht))
  case running => rw [← hrunning ht]; exact hstop (.inl ht)
  case paused => rw [← hpaused ht]; exact hstop (.inr (.inl ht))
  case lapsed => rw [← hlapsed ht]; exact hstop (.inr (.inr ht))

/-- Settles O30: RESTART applies to a record that is IDLE or timing, and begins a run as START does. -/
theorem restartDecided : Obligations.RestartDecided := by
  intro s seq h r hready hr
  rw [← s.recordOf_endFrame] at hr
  refine ⟨fun ht => ?begun, fun ht => ?paused⟩
  case begun =>
    have hop := (r.restart?_of_state ht s.td.now).trans (congrArg some (r.startedAt_eq _))
    exact State.exec_of_owner (fun _ => rfl) hready (State.restartRecord_eq hr hop)
  case paused =>
    exact State.exec_of_owner (fun _ => rfl) hready (State.restartRecord_refused hr (r.restart?_of_paused ht _))

/-- Settles O31: PAUSE applies to a record that is timing, CONTINUE to a PAUSED one. -/
theorem pauseAndContinueDecided : Obligations.PauseAndContinueDecided := by
  intro s seq h r hready hr
  rw [← s.recordOf_endFrame] at hr
  refine ⟨fun run phase start due ht => ?pause, fun ht => ?noPause, fun run phase remaining ht => ?cont, fun ht => ?noContinue⟩
  case pause =>
    exact State.exec_of_owner (fun _ => rfl) hready (State.pauseRecord_eq hr (r.pause?_of_active ht _))
  case noPause =>
    exact State.exec_of_owner (fun _ => rfl) hready (State.pauseRecord_refused hr (r.pause?_eq_none ht _))
  case cont =>
    have hop := r.continue?_of_paused ht s.td.now
    cases phase <;> exact State.exec_of_owner (fun _ => rfl) hready (State.continueRecord_eq hr hop)
  case noContinue =>
    exact State.exec_of_owner (fun _ => rfl) hready (State.continueRecord_refused hr (r.continue?_eq_none ht _))

end Sys2Proof.Machine
end

-- ==== Supervision records: misses and consequences ====
section
/-! SUPPORT. Which expiries are misses (R68, R69), and what the Consequence of a fault does (R82 to R84). -/

namespace Sys2Proof.Machine

variable {s : State} {i : Fin 256} {r : Record} {run : Run} {start due : Time}

/-! ### Misses (R68, R69, R76) -/

theorem State.expire_supervise {phase : Phase} (hr : s.recordAt i = some r) (ht : r.timing = .active run phase start due)
    (hk : r.kind = .supervise) (n : Time) : s.expire i n = s.fault i r .miss n := by
  simp only [State.expire, hr, ht, hk]

theorem State.expire_window_phaseB (hr : s.recordAt i = some r) (ht : r.timing = .active run .b start due)
    (hk : r.kind = .window) (n : Time) : s.expire i n = s.fault i r .miss n := by
  simp only [State.expire, hr, ht, hk]

/-- Settles O24: both kinds take the fault that is a miss, and EXPIRY takes it at Now. -/
theorem supervisionMiss : Obligations.SupervisionMiss := by
  intro s i r run phase start due hr ht hk
  refine State.expiry_taken fun n => ?_
  rcases hk with hk | ⟨hk, rfl⟩
  · exact State.expire_supervise hr ht hk n
  · exact State.expire_window_phaseB hr ht hk n

/-! ### Consequences (R82 to R84) -/

/-- Settles O25: what SAFE does to a clear safe state and to a set one, SAFE_AND_RESET does ahead of the host reset. -/
theorem consequenceApplied : Obligations.ConsequenceApplied := by
  intro s h t entered _
  refine ⟨rfl, fun hclear => ?clear, fun hset => ?set⟩
  case clear =>
    have hsafe : s.enterSafe (.handle h) t = entered := s.enterSafe_clear hclear (.handle h) t
    exact ⟨hsafe, congrArg (fun u => u.hostReset h t) hsafe⟩
  case set =>
    obtain ⟨c, hc⟩ := Option.ne_none_iff_exists'.mp hset
    have hsafe : s.enterSafe (.handle h) t = s := s.enterSafe_set hc (.handle h) t
    exact ⟨hsafe, congrArg (fun u => u.hostReset h t) hsafe⟩

end Sys2Proof.Machine
end

-- ==== Supervision records: renewals ====
section
/-! SUPPORT. How a renewal is judged (R67, R70, R73 to R75), and how RENEW is answered (R65, R66). -/

namespace Sys2Proof.Machine

variable {s : State}

/-! ### The judgement of a renewal -/

section
variable {i : Fin 256} {r : Record} {run : Run} {phase : Phase} {start due : Time}

/-- A renewal of a RUNNING record that is not early is good (R67, R73). -/
theorem State.renewAt_running (ht : r.timing = .active .running phase start due)
    (hk : r.kind = .supervise ∨ (r.kind = .window ∧ phase = .b)) (t : Time) :
    s.renewAt i r t = some (s.putRecord i (r.phaseAFrom .running t), .good) := by
  rcases hk with hk | ⟨hk, rfl⟩ <;> simp only [State.renewAt, ht, hk]

/-- A renewal of a LAPSED record that is not early brings it back (R70, R74). -/
theorem State.renewAt_lapsed (ht : r.timing = .active .lapsed phase start due)
    (hk : r.kind = .supervise ∨ (r.kind = .window ∧ phase = .b)) (t : Time) :
    s.renewAt i r t = some ((s.post i r .recovered t).putRecord i (r.phaseAFrom .running t), .recovered) := by
  rcases hk with hk | ⟨hk, rfl⟩ <;> simp only [State.renewAt, ht, hk]

/-- A renewal of a WINDOW record in phase A is a fault (R75). -/
theorem State.renewAt_early (ht : r.timing = .active run .a start due) (hk : r.kind = .window) (t : Time) :
    s.renewAt i r t = some (s.fault i r .early t, .early) := by
  simp only [State.renewAt, ht, hk]

/-- A record that is not timing has no renewal (R65). -/
theorem State.renewAt_eq_none (h : r.timing.state = .idle ∨ r.timing.state = .paused) (t : Time) :
    s.renewAt i r t = none := by
  unfold State.renewAt
  cases ht : r.timing with
  | idle | paused | parked => rfl
  | active run => cases run <;> simp [ht, Timing.state] at h

end

/-! ### RENEW at the record table -/

section
variable {h : Handle} {r r' : Record} {u : State} {outcome : RenewOutcome} {run : Run} {phase : Phase} {start due : Time}

theorem State.renew_badHandle (hr : s.recordOf h = none) : s.renew h = ⟨s, .badHandle, []⟩ := by
  simp only [State.renew, hr, refuse]

theorem State.renew_badKind (hr : s.recordOf h = some r) (hk : r.kind.supervises = false) : s.renew h = ⟨s, .badKind, []⟩ := by
  simp only [State.renew, hr, hk, refuse, Bool.not_false, if_true]

theorem State.renew_badState (hr : s.recordOf h = some r) (hk : r.kind.supervises = true)
    (hnone : s.renewAt h.slot r s.td.now = none) : s.renew h = ⟨s, .badState, []⟩ := by
  simp only [State.renew, hr, hk, hnone, refuse, Bool.not_true, Bool.false_eq_true, if_false]

/-- The response to a RENEW reads the Due and the Miss count of the record that the renewal leaves (R66). -/
theorem State.renew_eq (hr : s.recordOf h = some r) (hk : r.kind.supervises = true)
    (hrenew : s.renewAt h.slot r s.td.now = some (u, outcome)) (hr' : u.recordAt h.slot = some r')
    (ht' : r'.timing = .active run phase start due) :
    s.renew h = ⟨u, .done, [outcome.code] ++ bytes32 due ++ [r'.missCount]⟩ := by
  have hdue : u.dueAt h.slot = some due := u.dueAt_eq_some.mpr ⟨r', run, phase, start, hr', ht'⟩
  have hmiss : u.missCountAt h.slot = r'.missCount := by simp only [State.missCountAt, hr']
  simp only [State.renew, hr, hk, hrenew, hdue, hmiss, Bool.not_true, Bool.false_eq_true, if_false, Option.getD_some]

end

/-! ### The frame that carried a RENEW -/

/-- A Consequence meets no frame: it does the same before the frame ends and after. -/
theorem State.applyConsequence_endFrame (s : State) (h : Handle) (c : Consequence) (t : Time) :
    s.endFrame.applyConsequence h c t = (s.applyConsequence h c t).endFrame := by
  have hsafe : s.endFrame.enterSafe (.handle h) t = (s.enterSafe (.handle h) t).endFrame := by
    unfold State.enterSafe
    rw [State.endFrame_ou]
    split <;> rfl
  cases c with
  | notify => rfl
  | safe => exact hsafe
  | safeAndReset => exact congrArg (fun u => u.hostReset h t) hsafe

theorem State.fault_endFrame (s : State) (i : Fin 256) (r : Record) (k : Occurrence) (t : Time) :
    s.endFrame.fault i r k t = (s.fault i r k t).endFrame :=
  congrArg (fun u => State.putRecord u i { r.phaseAFrom .lapsed t with missCount := satIncr r.missCount })
    ((s.post i r k t).applyConsequence_endFrame (s.handleAt i) r.consequence t)

theorem State.recordAt_putRecord_self (s : State) (i : Fin 256) (r : Record) : (s.putRecord i r).recordAt i = some r := by
  rw [s.recordAt_putRecord, if_pos rfl]

theorem State.recordAt_fault (s : State) (i : Fin 256) (r : Record) (k : Occurrence) (t : Time) :
    (s.fault i r k t).recordAt i = some { r.phaseAFrom .lapsed t with missCount := satIncr r.missCount } :=
  State.recordAt_putRecord_self _ i _

/-- An accepted RENEW that its owner answers, at the part with the frame ended, leaving `u` outside the port. -/
theorem State.exec_renew {u : State} {seq : Byte} {h : Handle} {st : Status} {body : List Byte} (hready : s.ready .run seq)
    (hrenew : s.endFrame.renew h = ⟨u.endFrame, st, body⟩) : exec (.renew seq h) s = .next (u.answering seq st body) :=
  State.exec_of_owner (owner := fun v => v.renew h) (fun _ => rfl) hready hrenew

/-! ### The statements -/

/-- Settles O32: each judgement of the renewal leaves the record that the response reads. -/
theorem renewJudged : Obligations.RenewJudged := by
  intro s seq h r run phase start due hready hr ht
  have hgen : (⟨h.slot, s.slots[h.slot].gen⟩ : Handle) = h := by
    rw [((s.recordOf_eq_some h r).mp hr).1]
  rw [← s.recordOf_endFrame] at hr
  refine ⟨fun hk => ?inTime, fun hk hphase => ?early⟩
  case inTime =>
    have hsup : r.kind.supervises = true := by rcases hk with hk | ⟨hk, -⟩ <;> rw [hk] <;> rfl
    refine ⟨fun hrun => ?good, fun hrun => ?recovered⟩
    all_goals subst hrun
    case good =>
      have hanswer := State.renew_eq hr hsup (State.renewAt_running ht hk _) (State.recordAt_putRecord_self _ _ _) rfl
      exact State.exec_renew hready hanswer
    case recovered =>
      have hanswer := State.renew_eq hr hsup (State.renewAt_lapsed ht hk _) (State.recordAt_putRecord_self _ _ _) rfl
      exact State.exec_renew hready hanswer
  case early =>
    subst hphase
    have hsup : r.kind.supervises = true := by rw [hk]; rfl
    have hfault := s.fault_endFrame h.slot r .early s.td.now
    have hanswer := State.renew_eq hr hsup (State.renewAt_early ht hk _) (State.recordAt_fault _ _ _ _ _) rfl
    rw [State.endFrame_td, hfault] at hanswer
    rw [State.exec_renew hready hanswer]
    unfold State.fault State.handleAt
    rw [hgen]
    rfl

/-- Settles O33, in R65's order of tests. -/
theorem renewRefused : Obligations.RenewRefused := by
  refine ⟨fun seq h => refusedOutsideRun_of_request fun _ => rfl, fun s seq h hready => ⟨fun hr => ?handle, fun r hr => ?_⟩⟩
  case handle => exact State.exec_renew hready (State.renew_badHandle hr)
  refine ⟨fun hk => ?kind, fun hk hstate => ?state⟩
  case kind =>
    have hsup : r.kind.supervises = false := by rcases hk with hk | hk <;> rw [hk] <;> rfl
    exact State.exec_renew hready (State.renew_badKind hr hsup)
  case state =>
    have hsup : r.kind.supervises = true := by rcases hk with hk | hk <;> rw [hk] <;> rfl
    exact State.exec_renew hready (State.renew_badState hr hsup (State.renewAt_eq_none hstate _))

end Sys2Proof.Machine
end

-- ==== Supervision records: the misses of a hold ====
section
/-! SUPPORT. The replay of a SUPERVISE record under CATCHUP (R168), miss by miss, and the record that brownout reconciliation leaves in a
slot that it visits (R166). -/

namespace Sys2Proof.Machine

/-! ### The Miss count after several misses (R4, R68) -/

/-- A Miss count after `k` more misses. -/
def missesAdded (count : BitVec 8) (k : Nat) : BitVec 8 := if 255 ≤ count.toNat + k then 255 else count + BitVec.ofNat 8 k

theorem toNat_missesAdded (count : BitVec 8) (k : Nat) : (missesAdded count k).toNat = min 255 (count.toNat + k) := by
  unfold missesAdded
  split
  next hfull => rw [min_eq_left hfull]; rfl
  next hroom =>
    rw [BitVec.toNat_add, BitVec.toNat_ofNat]
    omega

theorem satIncr_eq_missesAdded (count : BitVec 8) : satIncr count = missesAdded count 1 := by
  apply BitVec.eq_of_toNat_eq
  rw [toNat_missesAdded]
  unfold satIncr
  split
  next hfull => subst hfull; rfl
  next hroom =>
    have hne : count.toNat ≠ 255 := fun e => hroom (BitVec.eq_of_toNat_eq e)
    have hlt := count.isLt
    rw [BitVec.toNat_add]
    show (count.toNat + 1) % 256 = _
    omega

theorem missesAdded_add (count : BitVec 8) (j k : Nat) : missesAdded (missesAdded count j) k = missesAdded count (j + k) := by
  apply BitVec.eq_of_toNat_eq
  simp only [toNat_missesAdded]
  omega

/-! ### The record after several misses (R68, R69) -/

/-- A record that has missed at `first` and then at each of the `n` dues that were chained from it by Period A. -/
def RecordOf.missedFrom (r : Record) (first : Time) (n : Nat) : Record :=
  { r with
    missCount := missesAdded r.missCount (n + 1)
    timing := .active .lapsed .a (first + BitVec.ofNat 32 (n * r.periodA.toNat))
      (first + BitVec.ofNat 32 ((n + 1) * r.periodA.toNat)) }

section
variable {r : Record}

/-- Without a pending update phase A begins with the record's fields as they stand (R18). -/
theorem RecordOf.takePending_of_none (hpend : r.pending = Pending.none) : r.takePending = r := by
  obtain ⟨⟩ := r
  cases hpend
  rfl

theorem ticks_eq_ofNat (p : Period) : ticks p = BitVec.ofNat 32 p.toNat := by
  apply BitVec.eq_of_toNat_eq
  rw [toNat_ticks, BitVec.toNat_ofNat, ← toNat_ticks, Nat.mod_eq_of_lt (ticks p).isLt]

/-- What one miss leaves. -/
theorem RecordOf.phaseAFrom_missed (hpend : r.pending = Pending.none) (t : Time) :
    { r.phaseAFrom .lapsed t with missCount := satIncr r.missCount } = r.missedFrom t 0 := by
  rw [RecordOf.phaseAFrom, r.takePending_of_none hpend, satIncr_eq_missesAdded, ticks_eq_ofNat]
  simp [RecordOf.missedFrom]

/-- A first miss and `n + 1` more, counted from the due that the first leaves. -/
theorem RecordOf.missedFrom_succ (first : Time) (n : Nat) :
    RecordOf.missedFrom (r.missedFrom first 0) (first + ticks r.periodA) n = r.missedFrom first (n + 1) := by
  have hchain (k : Nat) : first + ticks r.periodA + BitVec.ofNat 32 (k * r.periodA.toNat) =
      first + BitVec.ofNat 32 ((k + 1) * r.periodA.toNat) := by
    rw [ticks_eq_ofNat, add_assoc, ← BitVec.ofNat_add, Nat.succ_mul, Nat.add_comm]
  have hcount := missesAdded_add r.missCount 1 (n + 1)
  rw [Nat.add_comm 1] at hcount
  simp only [RecordOf.missedFrom, hchain, Nat.zero_add, hcount]

end

/-! ### The replay (R168 step 2) -/

/-- A replay whose due is not past is over, however much fuel is left. -/
theorem State.replayDue_of_ahead {s : State} {i : Fin 256} {due newNow : Time} (hdue : s.dueAt i = some due)
    (hahead : ¬ isPast due newNow = true) (fuel : Nat) : s.replayDue i newNow fuel = s := by
  cases fuel with
  | zero => rfl
  | succ fuel =>
    rcases s.replayDue_succ_cases i newNow fuel with ⟨due', hdue', hpast, -⟩ | ⟨-, hover⟩
    · cases hdue.symm.trans hdue'
      exact absurd hpast hahead
    · exact hover

theorem State.replayDue_of_past {s : State} {i : Fin 256} {due newNow : Time} (hdue : s.dueAt i = some due)
    (hpast : isPast due newNow = true) (fuel : Nat) :
    s.replayDue i newNow (fuel + 1) = (s.expire i due).replayDue i newNow fuel := by
  simp only [State.replayDue, hdue, hpast, if_true]

/-- A SUPERVISE record that is timing, with no pending update, due `e` ticks after `frozen`. -/
structure RecordOf.Supervised (r : Record) (frozen : Time) (e : Nat) : Prop where
  kind : r.kind = .supervise
  pending : r.pending = Pending.none
  timing : ∃ run phase start, r.timing = .active run phase start (frozen + BitVec.ofNat 32 e)

theorem RecordOf.Supervised.missed {r : Record} {frozen : Time} {e : Nat} (h : r.Supervised frozen e) :
    RecordOf.Supervised (r.missedFrom (frozen + BitVec.ofNat 32 e) 0) frozen (e + r.periodA.toNat) := by
  refine ⟨h.kind, h.pending, .lapsed, .a, frozen + BitVec.ofNat 32 e + BitVec.ofNat 32 (0 * r.periodA.toNat), ?_⟩
  rw [BitVec.ofNat_add, ← add_assoc]
  simp only [RecordOf.missedFrom, Nat.zero_add, Nat.one_mul]

/-- The expiry of a supervised record at its due is one miss. -/
theorem State.recordAt_expire_supervised {s : State} {i : Fin 256} {r : Record} {frozen : Time} {e : Nat}
    (hr : s.recordAt i = some r) (h : r.Supervised frozen e) (n : Time) :
    (s.expire i n).recordAt i = some (r.missedFrom n 0) := by
  obtain ⟨run, phase, start, ht⟩ := h.timing
  rw [State.expire_supervise hr ht h.kind, State.recordAt_fault, r.phaseAFrom_missed h.pending]

theorem State.dueAt_supervised {s : State} {i : Fin 256} {r : Record} {frozen : Time} {e : Nat}
    (hr : s.recordAt i = some r) (h : r.Supervised frozen e) : s.dueAt i = some (frozen + BitVec.ofNat 32 e) := by
  obtain ⟨run, phase, start, ht⟩ := h.timing
  exact s.dueAt_eq_some.mpr ⟨r, run, phase, start, hr, ht⟩

/-- The replay of `h` ticks misses at the due, `e` ticks after `frozen`, and at each of the `n` dues after it that fall within them. -/
theorem State.recordAt_replayDue_supervised {i : Fin 256} {frozen : Time} {h : Nat} (hh : h ≤ Config.holdMax) (n : Nat) :
    ∀ (s : State) (r : Record) (e fuel : Nat), s.recordAt i = some r → r.Supervised frozen e →
      e + n * r.periodA.toNat ≤ h → h < e + (n + 1) * r.periodA.toNat → n < fuel →
      (s.replayDue i (frozen + BitVec.ofNat 32 h) fuel).recordAt i =
        some (r.missedFrom (frozen + BitVec.ofNat 32 e) n) := by
  induction n with
  | zero =>
    intro s r e fuel hr hsup hle hlt hfuel
    obtain ⟨fuel, rfl⟩ := Nat.exists_eq_add_one_of_ne_zero (Nat.ne_of_gt hfuel)
    have hperiod := r.periodA.isLt
    have hhold : h ≤ 1073741823 := hh
    have hmissed := State.recordAt_expire_supervised hr hsup (frozen + BitVec.ofNat 32 e)
    have hahead : ¬ isPast (frozen + BitVec.ofNat 32 (e + r.periodA.toNat)) (frozen + BitVec.ofNat 32 h) = true := by
      rw [isPast_iff hh (by omega)]
      omega
    rw [State.replayDue_of_past (State.dueAt_supervised hr hsup) ((isPast_iff hh (by omega)).mpr (by omega)),
      State.replayDue_of_ahead (State.dueAt_supervised hmissed hsup.missed) hahead, hmissed]
  | succ n ih =>
    intro s r e fuel hr hsup hle hlt hfuel
    obtain ⟨fuel, rfl⟩ := Nat.exists_eq_add_one_of_ne_zero (Nat.ne_of_gt (Nat.zero_lt_of_lt hfuel))
    have hhold : h ≤ 1073741823 := hh
    rw [Nat.succ_mul] at hle
    rw [Nat.succ_mul] at hlt
    have hmissed := State.recordAt_expire_supervised hr hsup (frozen + BitVec.ofNat 32 e)
    rw [State.replayDue_of_past (State.dueAt_supervised hr hsup) ((isPast_iff hh (by omega)).mpr (by omega)),
      ih _ _ (e + r.periodA.toNat) fuel hmissed hsup.missed ?_ ?_ (by omega), BitVec.ofNat_add, ← add_assoc, ← ticks_eq_ofNat,
      RecordOf.missedFrom_succ]
    · show e + r.periodA.toNat + n * r.periodA.toNat ≤ h
      omega
    · show h < e + r.periodA.toNat + (n + 1) * r.periodA.toNat
      omega

/-! ### Brownout reconciliation at a visited slot (R166) -/

theorem State.slots_enterHold (s : State) : s.enterHold.slots = s.slots := by
  unfold State.enterHold
  dsimp only
  split <;> rfl

theorem State.slots_enterRun (s : State) : s.enterRun.slots = s.slots := by
  unfold State.enterRun
  dsimp only
  split
  · exact State.slots_enterHold _
  · rfl

theorem State.slots_endReconciliation (s : State) (origin : ResumeOrigin) (h : Nat) (newNow : Time) (visited : Nat) :
    (s.endReconciliation origin h newNow visited).slots = s.slots :=
  State.slots_enterRun _

/-- A slot with a Due is treated once, with the record it had before. -/
theorem State.recordAt_brownout (s : State) {i : Fin 256} {due : Time} (hdue : s.dueAt i = some due) :
    ∃ u : State, u.recordAt i = s.recordAt i ∧
      s.brownout.recordAt i = (u.treat s.td.now s.td.holdCounter false i).recordAt i := by
  obtain ⟨u, -, hslot, hfold⟩ := s.slots_foldl_of_mem (fun u i => u.treat s.td.now s.td.holdCounter false i)
    (fun u i => u.keeps_treat s.td.now s.td.holdCounter false i)
    (fun u i j => u.slots_treat_ne s.td.now s.td.holdCounter false i j)
    (s.nodup_visited .brownout) (s.mem_dueOrder.mpr ⟨due, hdue⟩)
  refine ⟨u, by simp only [State.recordAt, hslot], ?_⟩
  simp only [State.brownout, State.reconcile, State.recordAt, State.slots_endReconciliation]
  exact congrArg Slot.record hfold

/-- CATCHUP of a record with a Due replays it as it stands (R168). -/
theorem State.treat_catchup {s : State} {i : Fin 256} {r : Record} {run : Run} {phase : Phase} {start due : Time}
    (hr : s.recordAt i = some r) (hpolicy : r.holdPolicy = .catchup) (ht : r.timing = .active run phase start due)
    (frozen : Time) (h : Nat) :
    s.treat frozen h false i = (s.putRecord i r).replayDue i (frozen + BitVec.ofNat 32 h) (h + 1) := by
  have hunparked : r.unparked frozen = r := by simp only [RecordOf.unparked, ht]
  have hcond : (false || r.holdPolicy == .stretch) = false := by rw [hpolicy]; rfl
  simp only [State.treat, hr, hcond, hunparked, Bool.false_eq_true, if_false]

/-- PWARN withdrawn in PARKED begins brownout reconciliation (R154). -/
theorem State.exec_pwarnWithdrawn_parked {s : State} (h : s.steady .parked) :
    exec .pwarnWithdrawn s = .next (State.brownout { s with pr := { s.pr with pwarn := false } }) := by
  rw [show exec .pwarnWithdrawn s = execPwarnWithdrawn s from rfl, execPwarnWithdrawn, s.event_of_steady h]
  simp only [h.2.1]

/-- The number of whole periods that fit into `h` ticks after `e`. -/
theorem periods_within {e h p : Nat} (hp : p ≠ 0) (he : e ≤ h) :
    e + (h - e) / p * p ≤ h ∧ h < e + ((h - e) / p + 1) * p := by
  have hdiv := Nat.div_add_mod' (h - e) p
  have hmod := Nat.mod_lt (h - e) (Nat.pos_of_ne_zero hp)
  rw [Nat.succ_mul]
  omega

/-- Settles O51: the replay misses once at the due and once in each whole Period A that fits into the rest of the hold. -/
theorem catchupCountsEveryMiss : Obligations.CatchupCountsEveryMiss := by
  intro s i r run phase start due hsteady hhold hr hk hpolicy hperiod hpend ht hle
  refine ⟨_, State.exec_pwarnWithdrawn_parked hsteady, ?_⟩
  obtain ⟨u, hu, hbrownout⟩ := State.recordAt_brownout { s with pr := { s.pr with pwarn := false } }
    (State.dueAt_eq_some _ |>.mpr ⟨r, run, phase, start, hr, ht⟩)
  have hdue : due = s.td.now + BitVec.ofNat 32 (due - s.td.now).toNat := by
    rw [BitVec.ofNat_toNat, BitVec.setWidth_eq, add_sub_cancel]
  have hsup : r.Supervised s.td.now (due - s.td.now).toNat := ⟨hk, hpend, run, phase, start, by rw [← hdue, ht]⟩
  have hne : r.periodA.toNat ≠ 0 := fun e => hperiod (BitVec.eq_of_toNat_eq e)
  obtain ⟨hlast, hnext⟩ := periods_within hne hle
  have hfuel : (s.td.holdCounter - (due - s.td.now).toNat) / r.periodA.toNat < s.td.holdCounter + 1 :=
    Nat.lt_succ_of_le ((Nat.div_le_self _ _).trans (Nat.sub_le _ _))
  rw [hbrownout, State.treat_catchup (hu.trans hr) hpolicy ht,
    State.recordAt_replayDue_supervised hhold _ _ r _ _ (State.recordAt_putRecord_self _ i r) hsup hlast hnext hfuel, ← hdue]
  rfl

end Sys2Proof.Machine
end

-- ==== Power events: power-on, reset and the losses of supply ====
section
/-! SUPPORT. The power events at a steady part and at an unpowered one (R85, R146, R147, R155, R177, R188). -/

namespace Sys2Proof.Machine

/-! ### Events at a steady part -/

section
variable {s : State} {p : PowerState} (hsteady : s.steady p)
include hsteady

theorem State.exec_rstnAsserted :
    exec .rstnAsserted s = .next (State.beginLoading { s with pr := { s.pr with rstn := true } }) := by
  rw [show exec .rstnAsserted s = execRstnAsserted s from rfl, execRstnAsserted, s.event_of_steady hsteady]

theorem State.exec_rstnReleased : exec .rstnReleased s = .next { s with pr := { s.pr with rstn := false } } := by
  rw [show exec .rstnReleased s = execRstnReleased s from rfl, execRstnReleased, s.event_of_steady hsteady]

theorem State.exec_supplyLost :
    exec .supplyLost s = .next { s with supply := false, pr := { s.pr with checkpoint := none, save := none } } := by
  rw [show exec .supplyLost s = execSupplyLost s from rfl, execSupplyLost, s.event_of_steady hsteady]

theorem State.exec_hrstPulseEnd : exec .hrstPulseEnd s = .next { s with ou := { s.ou with hrst := none } } := by
  rw [show exec .hrstPulseEnd s = execHrstPulseEnd s from rfl, execHrstPulseEnd, s.event_of_steady hsteady]

end

/-! ### The store and the unpowered part -/

theorem State.exec_storeContentsLost (s : State) :
    exec .storeContentsLost s =
      .next (if s.supply = true then s else { s with pr := { s.pr with store := Vector.replicate 2 emptyBank } }) := rfl

/-- An unpowered part takes POWER_ON and STORE_CONTENTS_LOST alone (log 7). -/
theorem State.exec_of_dark {s : State} (hdark : s.supply = false) {c : Instr} (hpower : ∀ x y : Bool, c ≠ .powerOn x y)
    (hstore : c ≠ .storeContentsLost) : exec c s = .next s := by
  by_cases hexpiry : c = .expiry
  · subst hexpiry
    rw [show exec .expiry s = execExpiry s from rfl]
    simp only [execExpiry, hdark, Bool.false_eq_true, if_false]
  · obtain ⟨f, hf⟩ := exec_eq_event hexpiry hpower hstore
    rw [hf, s.event_of_dark hdark]

/-- Settles O52: each event acts on a steady part as it stands, and only the loss of the store's contents depends on the supply. -/
theorem powerEventsTaken : Obligations.PowerEventsTaken := by
  unfold Obligations.PowerEventsTaken
  intro loading
  refine ⟨fun s pwarn rstn => rfl, fun s p hsteady => ?powered, fun s hdark => ?dark⟩
  case powered =>
    refine ⟨State.exec_rstnAsserted hsteady, State.exec_rstnReleased hsteady, State.exec_supplyLost hsteady,
      State.exec_hrstPulseEnd hsteady, ?_⟩
    rw [s.exec_storeContentsLost, if_pos hsteady.1]
  case dark =>
    refine ⟨?_, fun c hpower hstore => State.exec_of_dark hdark hpower hstore⟩
    rw [s.exec_storeContentsLost, hdark, if_neg Bool.false_ne_true]
    rfl

end Sys2Proof.Machine
end

-- ==== Groups: JOIN, LEAVE and the group requests ====
section
/-! SUPPORT. What JOIN and LEAVE report and write (R89, R90), and how a group request and the single-record request of each of its
members come to apply one operation (R92 to R96). -/

namespace Sys2Proof.Machine

/-! ### The bytes of a group and of GROUP_START's option -/

theorem finOf_of_val {n : Nat} {i : Fin n} {x : Byte} (h : i.val = x.toNat) : finOf n x = some i := by
  obtain ⟨v, hv⟩ := i
  obtain rfl : v = x.toNat := h
  exact dif_pos hv

theorem finOf_eq_none {n : Nat} {x : Byte} (h : n ≤ x.toNat) : finOf n x = none := dif_neg (Nat.not_lt.mpr h)

theorem boolOf_eq_none {x : Byte} (h : 2 ≤ x.toNat) : boolOf x = none := by
  unfold boolOf
  split
  next h0 => omega
  next h1 => omega
  next => rfl

/-! ### JOIN and LEAVE (R89, R90) -/

section
variable {s : State} {h : Handle} {r : Record} {x : Byte} {g : Fin 16}

theorem State.joinGroup_badHandle (hr : s.recordOf h = none) : s.joinGroup h x = ⟨s, .badHandle, []⟩ := by
  simp only [State.joinGroup, hr, refuse]

theorem State.joinGroup_badField (hr : s.recordOf h = some r) (hx : finOf 16 x = none) : s.joinGroup h x = ⟨s, .badField, []⟩ := by
  simp only [State.joinGroup, hr, hx, refuse]

theorem State.joinGroup_eq (hr : s.recordOf h = some r) (hx : finOf 16 x = some g) :
    s.joinGroup h x = ⟨s.putRecord h.slot { r with group := some g }, .done, groupBytes r.group⟩ := by
  simp only [State.joinGroup, hr, hx]

theorem State.leaveGroup_badHandle (hr : s.recordOf h = none) : s.leaveGroup h = ⟨s, .badHandle, []⟩ := by
  simp only [State.leaveGroup, hr, refuse]

theorem State.leaveGroup_eq (hr : s.recordOf h = some r) :
    s.leaveGroup h = ⟨s.putRecord h.slot { r with group := none }, .done, groupBytes r.group⟩ := by
  simp only [State.leaveGroup, hr]

end

/-- Settles O34, in R89's order of tests: the handle, then the group. -/
theorem joinAndLeaveDecided : Obligations.JoinAndLeaveDecided := by
  refine ⟨fun seq h x => ⟨refusedOutsideRun_of_request fun _ => rfl, refusedOutsideRun_of_request fun _ => rfl⟩,
    fun s seq x h hready => ⟨fun hr => ?handle, fun r hr => ?record⟩⟩
  all_goals rw [← s.recordOf_endFrame] at hr
  case handle =>
    exact ⟨State.exec_of_owner (fun _ => rfl) hready (State.joinGroup_badHandle hr),
      State.exec_of_owner (fun _ => rfl) hready (State.leaveGroup_badHandle hr)⟩
  case record =>
    refine ⟨fun hx => ?field, fun g hg => ?join, ?leave⟩
    case field => exact State.exec_of_owner (fun _ => rfl) hready (State.joinGroup_badField hr (finOf_eq_none hx))
    case join =>
      rw [State.exec_of_owner (u := s.putRecord h.slot { r with group := some g }) (fun _ => rfl) hready
        (State.joinGroup_eq hr (finOf_of_val hg))]
      cases r.group <;> rfl
    case leave =>
      rw [State.exec_of_owner (u := s.putRecord h.slot { r with group := none }) (fun _ => rfl) hready
        (State.leaveGroup_eq hr)]
      cases r.group <;> rfl

/-! ### The states in which each operation acts (R93 to R96) -/

section
variable (r : Record) (t : Time)

theorem RecordOf.isSome_start? : (r.start? t).isSome = [RecordState.idle].contains r.timing.state := by
  unfold RecordOf.start?
  cases r.timing with
  | active run => cases run <;> rfl
  | idle | paused | parked => rfl

theorem RecordOf.isSome_restart? : (r.restart? t).isSome = [RecordState.idle, .running, .lapsed].contains r.timing.state := by
  unfold RecordOf.restart?
  cases r.timing with
  | active run => cases run <;> rfl
  | idle | paused | parked => rfl

theorem RecordOf.isSome_stop? : r.stop?.isSome = [RecordState.running, .lapsed, .paused].contains r.timing.state := by
  unfold RecordOf.stop?
  cases r.timing with
  | active run => cases run <;> rfl
  | idle | paused | parked => rfl

theorem RecordOf.isSome_pause? : (r.pause? t).isSome = [RecordState.running, .lapsed].contains r.timing.state := by
  unfold RecordOf.pause?
  cases r.timing with
  | active run => cases run <;> rfl
  | idle | paused | parked => rfl

theorem RecordOf.isSome_continue? : (r.continue? t).isSome = [RecordState.paused].contains r.timing.state := by
  unfold RecordOf.continue?
  cases r.timing with
  | active run => cases run <;> rfl
  | idle | paused | parked => rfl

end

/-! ### What a single-record request makes of its slot -/

/-- An answer at `s` that applies an operation with this outcome to slot `i`'s record: the outcome is written, and with none the part
stays as it is. -/
def Answer.Applies (a : Answer) (s : State) (i : Fin 256) (outcome : Option Record) : Prop :=
  (∀ r', outcome = some r' → a.state = s.putRecord i r') ∧ (outcome = none → a.state = s)

/-- The slot then holds the outcome or, without one, the record it held. -/
theorem Answer.Applies.slot {a : Answer} {s : State} {i : Fin 256} {outcome : Option Record} {r : Record}
    (h : a.Applies s i outcome) (hr : s.recordAt i = some r) :
    a.state.slots[i] = { s.slots[i] with record := some (outcome.getD r) } := by
  obtain ⟨hwritten, hkept⟩ := h
  cases outcome with
  | some r' => simp [hwritten r' rfl]
  | none =>
    rw [hkept rfl, Option.getD_none, ← hr]
    rfl

section
variable {s : State} {h : Handle} {r : Record} (hr : s.recordOf h = some r)
include hr

theorem State.startRecord_applies : (s.startRecord h).Applies s h.slot (r.start? s.td.now) :=
  ⟨fun _ hop => congrArg Answer.state (State.startRecord_eq hr hop),
    fun hop => congrArg Answer.state (State.startRecord_refused hr hop)⟩

theorem State.restartRecord_applies : (s.restartRecord h).Applies s h.slot (r.restart? s.td.now) :=
  ⟨fun _ hop => congrArg Answer.state (State.restartRecord_eq hr hop),
    fun hop => congrArg Answer.state (State.restartRecord_refused hr hop)⟩

theorem State.stopRecord_applies : (s.stopRecord h).Applies s h.slot r.stop? :=
  ⟨fun _ hop => congrArg Answer.state (State.stopRecord_eq hr hop),
    fun hop => congrArg Answer.state (State.stopRecord_unchanged hr hop)⟩

theorem State.pauseRecord_applies : (s.pauseRecord h).Applies s h.slot ((r.pause? s.td.now).map (·.1)) := by
  refine ⟨fun r' hop => ?_, fun hop => congrArg Answer.state (State.pauseRecord_refused hr (Option.map_eq_none_iff.mp hop))⟩
  obtain ⟨⟨r', remaining⟩, hpause, rfl⟩ := Option.map_eq_some_iff.mp hop
  exact congrArg Answer.state (State.pauseRecord_eq hr hpause)

theorem State.continueRecord_applies : (s.continueRecord h).Applies s h.slot ((r.continue? s.td.now).map (·.1)) := by
  refine ⟨fun r' hop => ?_, fun hop => congrArg Answer.state (State.continueRecord_refused hr (Option.map_eq_none_iff.mp hop))⟩
  obtain ⟨⟨r', due⟩, hcont, rfl⟩ := Option.map_eq_some_iff.mp hop
  exact congrArg Answer.state (State.continueRecord_eq hr hcont)

end

/-! ### What a group request makes of a slot -/

theorem Slot.groupOp_member {slot : Slot} {r : Record} {g : Fin 16} (hr : slot.record = some r) (hg : r.inGroup g = true)
    (op : Record → Option Record) : slot.groupOp g op = { slot with record := some ((op r).getD r) } := by
  simp only [Slot.groupOp, hr, hg, if_true]

theorem Slot.groupOp_other {slot : Slot} {g : Fin 16} (h : (slot.record.any fun r => r.inGroup g) = false)
    (op : Record → Option Record) : slot.groupOp g op = slot := by
  cases hr : slot.record with
  | none => simp only [Slot.groupOp, hr]
  | some r =>
    have hg : r.inGroup g = false := by simpa [hr] using h
    simp only [Slot.groupOp, hr, hg, Bool.false_eq_true, if_false]

/-! ### One operation behind a group request and a single-record request (R92) -/

/-- At this part a group request applies an operation to the members of a group, a single-record request applies it to the record of
its handle, and it acts on a record exactly in these states. -/
structure State.GroupApplies (s : State) (seq : Byte) (g : Fin 16) (c : Instr) (single : Handle → Instr) (states : List RecordState)
    (op : Record → Option Record) : Prop where
  group : exec c s = .next ({ s with slots := s.slots.map fun slot : Slot => slot.groupOp g op }.answering seq
    (s.groupRequest g op).status (s.groupRequest g op).body)
  member : ∀ (h : Handle) (r : Record), s.recordOf h = some r →
    ∃ u : State, exec (single h) s = .next u ∧ u.slots[h.slot] = { s.slots[h.slot] with record := some ((op r).getD r) }
  acts : ∀ r : Record, (op r).isSome = states.contains r.timing.state

/-- The two requests are served by owners that apply the operation. -/
theorem State.groupApplies_of_owners {s : State} {seq : Byte} {g : Fin 16} {c : Instr} {single : Handle → Instr}
    {states : List RecordState} {op : Record → Option Record} {owner : State → Answer} {singleOwner : Handle → State → Answer}
    (hready : s.ready .run seq) (hc : ∀ u : State, exec c u = u.request seq .run owner)
    (howner : owner s.endFrame = s.endFrame.groupRequest g op)
    (hsingle : ∀ (h : Handle) (u : State), exec (single h) u = u.request seq .run (singleOwner h))
    (happlies : ∀ (h : Handle) (r : Record), s.endFrame.recordOf h = some r →
      (singleOwner h s.endFrame).Applies s.endFrame h.slot (op r))
    (hacts : ∀ r : Record, (op r).isSome = states.contains r.timing.state) :
    s.GroupApplies seq g c single states op where
  group := State.exec_of_owner hc hready howner
  member h r hr := by
    obtain ⟨-, hat⟩ := (s.endFrame.recordOf_eq_some h r).mp hr
    exact ⟨_, (hsingle h s).trans (s.request_run hready _), (happlies h r hr).slot hat⟩
  acts := hacts

section
variable {s : State} {seq x : Byte} {g : Fin 16} (hready : s.ready .run seq) (hg : g.val = x.toNat)
include hready hg

theorem State.groupApplies_start :
    s.GroupApplies seq g (.groupStart seq x 0) (Instr.start seq) [.idle] fun r => r.start? s.td.now :=
  have howner : s.endFrame.startGroup x 0 = s.endFrame.groupRequest g fun r => r.start? s.td.now := by
    simp only [State.startGroup, finOf_of_val hg]
    rfl
  State.groupApplies_of_owners hready (fun _ => rfl) howner (fun _ _ => rfl) (fun _ _ => State.startRecord_applies)
    fun r => r.isSome_start? _

theorem State.groupApplies_restart :
    s.GroupApplies seq g (.groupStart seq x 1) (Instr.restart seq) [.idle, .running, .lapsed] fun r => r.restart? s.td.now :=
  have howner : s.endFrame.startGroup x 1 = s.endFrame.groupRequest g fun r => r.restart? s.td.now := by
    simp only [State.startGroup, finOf_of_val hg]
    rfl
  State.groupApplies_of_owners hready (fun _ => rfl) howner (fun _ _ => rfl) (fun _ _ => State.restartRecord_applies)
    fun r => r.isSome_restart? _

theorem State.groupApplies_stop :
    s.GroupApplies seq g (.groupStop seq x) (Instr.stop seq) [.running, .lapsed, .paused] fun r => r.stop? :=
  have howner : s.endFrame.stopGroup x = s.endFrame.groupRequest g fun r => r.stop? := by
    simp only [State.stopGroup, finOf_of_val hg]
  State.groupApplies_of_owners hready (fun _ => rfl) howner (fun _ _ => rfl) (fun _ _ => State.stopRecord_applies)
    fun r => r.isSome_stop?

theorem State.groupApplies_pause :
    s.GroupApplies seq g (.groupPause seq x) (Instr.pause seq) [.running, .lapsed] fun r => (r.pause? s.td.now).map (·.1) :=
  have howner : s.endFrame.pauseGroup x = s.endFrame.groupRequest g fun r => (r.pause? s.td.now).map (·.1) := by
    simp only [State.pauseGroup, finOf_of_val hg]
    rfl
  State.groupApplies_of_owners hready (fun _ => rfl) howner (fun _ _ => rfl) (fun _ _ => State.pauseRecord_applies)
    fun r => Option.isSome_map.trans (r.isSome_pause? _)

theorem State.groupApplies_continue :
    s.GroupApplies seq g (.groupContinue seq x) (Instr.continueRecord seq) [.paused] fun r => (r.continue? s.td.now).map (·.1) :=
  have howner : s.endFrame.continueGroup x = s.endFrame.groupRequest g fun r => (r.continue? s.td.now).map (·.1) := by
    simp only [State.continueGroup, finOf_of_val hg]
    rfl
  State.groupApplies_of_owners hready (fun _ => rfl) howner (fun _ _ => rfl) (fun _ _ => State.continueRecord_applies)
    fun r => Option.isSome_map.trans (r.isSome_continue? _)

end

/-! ### Group requests refused (R92) -/

section
variable {s : State} {x : Byte}

theorem State.startGroup_refused {o : Byte} (h : 16 ≤ x.toNat ∨ 2 ≤ o.toNat) : s.startGroup x o = ⟨s, .badField, []⟩ := by
  rcases h with hx | ho
  · simp only [State.startGroup, finOf_eq_none hx, refuse]
  · simp only [State.startGroup, boolOf_eq_none ho, refuse]
    cases finOf 16 x <;> rfl

theorem State.stopGroup_refused (hx : 16 ≤ x.toNat) : s.stopGroup x = ⟨s, .badField, []⟩ := by
  simp only [State.stopGroup, finOf_eq_none hx, refuse]

theorem State.pauseGroup_refused (hx : 16 ≤ x.toNat) : s.pauseGroup x = ⟨s, .badField, []⟩ := by
  simp only [State.pauseGroup, finOf_eq_none hx, refuse]

theorem State.continueGroup_refused (hx : 16 ≤ x.toNat) : s.continueGroup x = ⟨s, .badField, []⟩ := by
  simp only [State.continueGroup, finOf_eq_none hx, refuse]

end

/-- Settles O35: each group request applies, to the members, the operation that its single-record request applies. -/
theorem groupRequestsActOnMembers : Obligations.GroupRequestsActOnMembers := by
  refine ⟨fun seq x o => ⟨refusedOutsideRun_of_request fun _ => rfl, refusedOutsideRun_of_request fun _ => rfl,
      refusedOutsideRun_of_request fun _ => rfl, refusedOutsideRun_of_request fun _ => rfl⟩,
    fun s seq x hready => ⟨fun o h => ?option, fun hx => ?group, fun g c single states hg hrow => ?members⟩⟩
  case option => exact State.exec_of_owner (fun _ => rfl) hready (State.startGroup_refused h)
  case group =>
    exact ⟨State.exec_of_owner (fun _ => rfl) hready (State.stopGroup_refused hx),
      State.exec_of_owner (fun _ => rfl) hready (State.pauseGroup_refused hx),
      State.exec_of_owner (fun _ => rfl) hready (State.continueGroup_refused hx)⟩
  case members =>
    obtain ⟨op, happlies⟩ : ∃ op, s.GroupApplies seq g c single states op := by
      simp only [List.mem_cons, Prod.mk.injEq, List.not_mem_nil, or_false] at hrow
      rcases hrow with ⟨rfl, rfl, rfl⟩ | ⟨rfl, rfl, rfl⟩ | ⟨rfl, rfl, rfl⟩ | ⟨rfl, rfl, rfl⟩ | ⟨rfl, rfl, rfl⟩
      · exact ⟨_, State.groupApplies_start hready hg⟩
      · exact ⟨_, State.groupApplies_restart hready hg⟩
      · exact ⟨_, State.groupApplies_stop hready hg⟩
      · exact ⟨_, State.groupApplies_pause hready hg⟩
      · exact ⟨_, State.groupApplies_continue hready hg⟩
    intro member affected
    refine ⟨s.slots.map fun slot => slot.groupOp g op, ?answer, fun i => ⟨fun hother => ?other, fun hmember => ?member⟩⟩
    case answer =>
      have hgroup := happlies.group
      simp only [State.groupRequest, happlies.acts] at hgroup
      exact hgroup
    case other => exact (Vector.getElem_map ..).trans (Slot.groupOp_other hother op)
    case member =>
      obtain ⟨r, hr, hin⟩ := (Option.any_eq_true _ _).mp hmember
      obtain ⟨u, hu, hslot⟩ := happlies.member ⟨i, s.slots[i].gen⟩ r ((s.recordOf_eq_some _ r).mpr ⟨rfl, hr⟩)
      exact ⟨u, hu, ((Vector.getElem_map ..).trans (Slot.groupOp_member hr hin op)).trans hslot.symm⟩

end Sys2Proof.Machine
end

-- ==== Input lines: trigger actions ====
section
/-! SUPPORT. The trigger action of a record (R108 to R111): the request it stands for, what of the part it reads, and what it leaves of
its record. -/

namespace Sys2Proof.Machine

variable {s u v : State} {i : Fin 256} {r : Record} {t : Time}

/-! ### The lines and the port are no part of an action -/

/-- The part with other lines and another port. -/
def State.withLinesPort (s : State) (lu : LineUnit) (hp : HostPort) : State := { s with lu := lu, hp := hp }

section
variable (lu : LineUnit) (hp : HostPort)

theorem State.applyConsequence_withLinesPort (s : State) (h : Handle) (c : Consequence) (t : Time) :
    (s.withLinesPort lu hp).applyConsequence h c t = (s.applyConsequence h c t).withLinesPort lu hp := by
  have hsafe : (s.withLinesPort lu hp).enterSafe (.handle h) t = (s.enterSafe (.handle h) t).withLinesPort lu hp := by
    cases hset : s.ou.safe with
    | some c => rw [s.enterSafe_set hset, (s.withLinesPort lu hp).enterSafe_set hset]
    | none => rw [s.enterSafe_clear hset, (s.withLinesPort lu hp).enterSafe_clear hset]; rfl
  cases c with
  | notify => rfl
  | safe => exact hsafe
  | safeAndReset => exact congrArg (fun u => u.hostReset h t) hsafe

theorem State.fault_withLinesPort (s : State) (i : Fin 256) (r : Record) (k : Occurrence) (t : Time) :
    (s.withLinesPort lu hp).fault i r k t = (s.fault i r k t).withLinesPort lu hp :=
  congrArg (fun u => State.putRecord u i { r.phaseAFrom .lapsed t with missCount := satIncr r.missCount })
    ((s.post i r k t).applyConsequence_withLinesPort lu hp (s.handleAt i) r.consequence t)

theorem State.renewAt_withLinesPort (s : State) (i : Fin 256) (r : Record) (t : Time) :
    (s.withLinesPort lu hp).renewAt i r t = (s.renewAt i r t).map fun res => (res.1.withLinesPort lu hp, res.2) := by
  unfold State.renewAt
  rw [State.fault_withLinesPort]
  split
  · split <;> rfl
  · rfl

theorem State.edgeAction_withLinesPort (s : State) (t : Time) (i : Fin 256) :
    (s.withLinesPort lu hp).edgeAction t i = (s.edgeAction t i).withLinesPort lu hp := by
  have hput : ∀ o : Option Record, o.elim (s.withLinesPort lu hp) ((s.withLinesPort lu hp).putRecord i) =
      (o.elim s (s.putRecord i)).withLinesPort lu hp := fun o => by cases o <;> rfl
  have hrenew : ∀ r : Record, ((s.withLinesPort lu hp).renewAt i r t).elim (s.withLinesPort lu hp) (·.1) =
      ((s.renewAt i r t).elim s (·.1)).withLinesPort lu hp := fun r => by
    rw [s.renewAt_withLinesPort]
    cases s.renewAt i r t <;> rfl
  have hrec : (s.withLinesPort lu hp).recordAt i = s.recordAt i := rfl
  unfold State.edgeAction
  rw [hrec]
  split
  · rfl
  · split
    · rfl
    · split
      · exact hput _
      · exact hput _
      · split
        · exact hrenew _
        · rfl

theorem State.foldl_edgeAction_withLinesPort (s : State) (t : Time) (l : List (Fin 256)) :
    l.foldl (fun v i => v.edgeAction t i) (s.withLinesPort lu hp) =
      (l.foldl (fun v i => v.edgeAction t i) s).withLinesPort lu hp :=
  List.foldl_hom (State.withLinesPort · lu hp) fun v i => v.edgeAction_withLinesPort lu hp t i

end

/-! ### What an action does to its own slot and to others -/

theorem RecordOf.start?_cases (r : Record) (t : Time) : r.start? t = none ∨ r.start? t = some (r.startedAt t) := by
  unfold RecordOf.start?
  cases r.timing <;> simp

theorem RecordOf.restart?_cases (r : Record) (t : Time) : r.restart? t = none ∨ r.restart? t = some (r.startedAt t) := by
  unfold RecordOf.restart?
  cases r.timing <;> simp

/-- An action leaves the part as it is, or a record in its slot that begins a phase at its instant (R108 to R111). -/
theorem State.edgeAction_rewrites (s : State) (t : Time) (i : Fin 256) :
    s.edgeAction t i = s ∨ ∃ r, s.recordAt i = some r ∧ s.Rewrites i r t (s.edgeAction t i) := by
  unfold State.edgeAction
  cases hr : s.recordAt i with
  | none => exact .inl rfl
  | some r =>
    have hbegun : s.Rewrites i r t (s.putRecord i (r.startedAt t)) := s.rewrites_phaseA i r .running t _ r.missCount
    dsimp only
    cases r.trigger with
    | none => exact .inl rfl
    | some trigger =>
      dsimp only
      cases trigger.action with
      | start =>
        rcases r.start?_cases t with h | h <;> rw [h]
        · exact .inl rfl
        · exact .inr ⟨r, rfl, hbegun⟩
      | restart =>
        rcases r.restart?_cases t with h | h <;> rw [h]
        · exact .inl rfl
        · exact .inr ⟨r, rfl, hbegun⟩
      | renew =>
        cases r.kind.supervises with
        | false => exact .inl rfl
        | true =>
          cases hrenew : s.renewAt i r t with
          | none => exact .inl rfl
          | some res => exact .inr ⟨r, rfl, State.rewrites_renewAt hrenew⟩

/-- An action changes no slot but its own. -/
theorem State.slots_edgeAction_ne (s : State) (t : Time) (i j : Fin 256) (hij : i ≠ j) :
    (s.edgeAction t i).slots[j] = s.slots[j] := by
  rcases s.edgeAction_rewrites t i with h | ⟨r, -, r', hslots, -⟩
  · rw [h]
  · simp only [hslots]
    exact s.slots_putRecord_ne hij r'

theorem State.slot_putRecord_congr (h : u.slots[i] = v.slots[i]) (r : Record) :
    (u.putRecord i r).slots[i] = (v.putRecord i r).slots[i] := by
  simp [h]

theorem State.slot_renewAt_congr (h : u.slots[i] = v.slots[i]) (r : Record) (t : Time) :
    ((u.renewAt i r t).elim u (·.1)).slots[i] = ((v.renewAt i r t).elim v (·.1)).slots[i] := by
  unfold State.renewAt
  split
  · split
    · simp only [Option.elim_some, State.slots_fault]
      exact State.slot_putRecord_congr h _
    · exact State.slot_putRecord_congr h _
    · exact State.slot_putRecord_congr h _
  · exact h

/-- What an action makes of its slot is a matter of that slot alone. -/
theorem State.slot_edgeAction_congr (h : u.slots[i] = v.slots[i]) (t : Time) :
    (u.edgeAction t i).slots[i] = (v.edgeAction t i).slots[i] := by
  have hrec : u.recordAt i = v.recordAt i := congrArg Slot.record h
  have hput : ∀ o : Option Record, (o.elim u (u.putRecord i)).slots[i] = (o.elim v (v.putRecord i)).slots[i]
    | none => h
    | some r => State.slot_putRecord_congr h r
  unfold State.edgeAction
  rw [hrec]
  split
  · exact h
  · split
    · exact h
    · split
      · exact hput _
      · exact hput _
      · split
        · exact State.slot_renewAt_congr h _ t
        · exact h

/-- Under periods that are not 0 no action leaves a Due that has come (R39). -/
theorem State.settled_edgeAction (hsettled : s.settled) (hpos : ∀ r, s.recordAt i = some r → r.PeriodsPos) :
    (s.edgeAction s.td.now i).settled := by
  have hkeep := s.keeps_edgeAction s.td.now i
  intro hp j hdue
  rw [hkeep.pr] at hp
  rw [hkeep.td] at hdue
  rcases s.edgeAction_rewrites s.td.now i with h | ⟨r, hr, hrw⟩
  · rw [h] at hdue
    exact hsettled hp j hdue
  · by_cases hij : i = j
    · subst hij
      obtain ⟨r', hr', hbegun, hcarries⟩ := hrw.recordAt
      obtain ⟨r'', run, phase, start, hr'', ht⟩ := (State.dueAt_eq_some _).mp hdue
      cases hr'.symm.trans hr''
      exact hbegun.due_ne hcarries (hpos r hr) ht rfl
    · rw [State.dueAt_eq_of_slot (s.slots_edgeAction_ne _ i j hij)] at hdue
      exact hsettled hp j hdue

/-! ### The request of an action -/

/-- The request that an action stands for, on the record of a slot. -/
def State.edgeRequest (s : State) (i : Fin 256) : Action → Instr
  | .start => .start 0 (s.handleAt i)
  | .renew => .renew 0 (s.handleAt i)
  | .restart => .restart 0 (s.handleAt i)

theorem State.recordOf_handleAt (s : State) (i : Fin 256) : s.recordOf (s.handleAt i) = s.recordAt i := if_pos rfl

/-- A slot that another part holds with the same generation has the same requests. -/
theorem State.edgeRequest_congr (h : u.slots[i] = v.slots[i]) (a : Action) : u.edgeRequest i a = v.edgeRequest i a := by
  have hhandle : u.handleAt i = v.handleAt i := congrArg (fun slot : Slot => Handle.mk i slot.gen) h
  cases a <;> simp only [State.edgeRequest, hhandle]

theorem Answer.Applies.state_eq {a : Answer} {outcome : Option Record} (h : a.Applies s i outcome) :
    a.state = outcome.elim s (s.putRecord i) := by
  cases outcome with
  | none => exact h.2 rfl
  | some r' => exact h.1 r' rfl

/-- RENEW at the record table leaves what the renewal leaves, when there is one. -/
theorem State.renew_state {h : Handle} (hr : s.recordOf h = some r) :
    (s.renew h).state = if r.kind.supervises then (s.renewAt h.slot r s.td.now).elim s (·.1) else s := by
  unfold State.renew
  rw [hr]
  dsimp only
  cases r.kind.supervises with
  | false => rfl
  | true => cases s.renewAt h.slot r s.td.now <;> rfl

/-- The owner of an action's request leaves what the action leaves at its Now. -/
theorem State.edgeRequest_owner {tr : Trigger} (hr : s.recordAt i = some r) (htr : r.trigger = some tr) :
    ∃ owner : State → Answer, (∀ v : State, exec (s.edgeRequest i tr.action) v = v.request 0 .run owner) ∧
      (owner s).state = s.edgeAction s.td.now i := by
  have hof : s.recordOf (s.handleAt i) = some r := (s.recordOf_handleAt i).trans hr
  unfold State.edgeAction
  rw [hr]
  dsimp only
  rw [htr]
  dsimp only
  cases tr.action with
  | start => exact ⟨fun v => v.startRecord (s.handleAt i), fun _ => rfl, (State.startRecord_applies hof).state_eq⟩
  | restart => exact ⟨fun v => v.restartRecord (s.handleAt i), fun _ => rfl, (State.restartRecord_applies hof).state_eq⟩
  | renew => exact ⟨fun v => v.renew (s.handleAt i), fun _ => rfl, State.renew_state hof⟩

/-- A port that has executed no request, with no frame in progress: the next good frame is accepted (R173). -/
def freshPort (held : Response) : HostPort := ⟨none, none, held, none⟩

/-- A settled part in RUN with a fresh port executes the request of a bound record's action as the action, but for the port. -/
theorem State.exec_edgeRequest {tr : Trigger} (hsteady : s.steady .run) (hr : s.recordAt i = some r)
    (htr : r.trigger = some tr) (held : Response) :
    ∃ hp : HostPort, exec (s.edgeRequest i tr.action) { s with hp := freshPort held } =
      .next ((s.edgeAction s.td.now i).withLinesPort s.lu hp) := by
  obtain ⟨owner, howner, hstate⟩ :=
    State.edgeRequest_owner (s := s.withLinesPort s.lu (freshPort held)) (i := i) hr htr
  have hready : State.ready (s.withLinesPort s.lu (freshPort held)) .run 0 := ⟨hsteady, nofun, rfl, nofun⟩
  have hexec := (howner _).trans (State.request_run _ hready owner)
  have hend : (s.withLinesPort s.lu (freshPort held)).endFrame = s.withLinesPort s.lu (freshPort held) := rfl
  rw [hend, hstate, State.edgeAction_withLinesPort] at hexec
  exact ⟨_, hexec⟩

end Sys2Proof.Machine
end

-- ==== Input lines: accepted candidates ====
section
/-! SUPPORT. Accepted candidates and samples (R100, R101), and an edge in RUN as the requests of its actions one after another (R108,
R113). -/

namespace Sys2Proof.Machine

variable {s t v : State} {l : Fin 8} {c : Candidate}

/-! ### Acceptance (R100, R101) -/

/-- The line unit once line `l` has taken a level and has no candidate. -/
def LineUnit.accepted (lu : LineUnit) (l : Fin 8) (level : Bool) : LineUnit :=
  { lu with lines := lu.lines.set l { lu.lines[l] with level := level, candidate := none } }

theorem EdgeSelect.admits_iff (e : EdgeSelect) (level : Bool) :
    e.admits level = true ↔ (e = .rise ∧ level = true) ∨ (e = .fall ∧ level = false) ∨ e = .both := by
  cases e <;> simp [EdgeSelect.admits]

theorem State.accept_of_not_admits {level : Bool} (h : ¬ s.lu.lines[l].config.edgeSelect.admits level = true) :
    s.accept l level = s.withLinesPort (s.lu.accepted l level) s.hp :=
  if_neg h

theorem State.accept_of_admits {level : Bool} (h : s.lu.lines[l].config.edgeSelect.admits level = true) :
    s.accept l level = (s.withLinesPort (s.lu.accepted l level) s.hp).edge l :=
  if_pos h

/-- Outside RUN an edge of a part whose filter runs joins the ignored-edge set (R101, R113). -/
theorem State.edge_outside_run (hloading : s.pr.power ≠ .loading) (hrun : s.pr.power ≠ .run) (l : Fin 8) :
    s.edge l = { s with lu := { s.lu with ignored := s.lu.ignored ||| (1#8 <<< l.val) } } := by
  unfold State.edge
  cases hp : s.pr.power with
  | loading => exact absurd hp hloading
  | run => exact absurd hp hrun
  | recovered | hold | parked => rfl

/-- With a candidate, CANDIDATE_ACCEPTED at a part whose filter runs is its acceptance. -/
theorem State.exec_candidateAccepted {p : PowerState} (hsteady : s.steady p) (hp : p ≠ .loading)
    (hc : s.lu.lines[l].candidate = some c) : exec (.candidateAccepted l) s = .next (s.accept l c.level) := by
  rw [← hsteady.2.1] at hp
  change execCandidateAccepted l s = _
  rw [execCandidateAccepted, s.event_of_steady hsteady, hc]
  cases hpower : s.pr.power with
  | loading => exact absurd hpower hp
  | recovered | run | hold | parked => rfl

/-! ### A chain of steps along a list -/

/-- A property of the slots yet to come and the state that stands, which some step carries past each slot, gives the states of a whole
pass over the list. -/
theorem exists_visit {σ : Type} (step : σ → Fin 256 → σ → Prop) (holds : List (Fin 256) → σ → Prop)
    (hstep : ∀ i rest v, holds (i :: rest) v → ∃ u, step v i u ∧ holds rest u) :
    ∀ (order : List (Fin 256)) (v : σ), holds order v →
      ∃ visit : Nat → σ, visit 0 = v ∧ (∀ k i, order[k]? = some i → step (visit k) i (visit (k + 1))) ∧
        holds [] (visit order.length) := by
  intro order
  induction order with
  | nil => exact fun v h => ⟨fun _ => v, rfl, nofun, h⟩
  | cons i rest ih =>
    intro v h
    obtain ⟨u, hu, hrest⟩ := hstep i rest v h
    obtain ⟨visit, hfirst, hnext, hlast⟩ := ih u hrest
    refine ⟨fun k => k.casesOn v visit, rfl, fun k j hk => ?_, hlast⟩
    cases k with
    | zero =>
      cases hk
      change step v i (visit 0)
      rwa [hfirst]
    | succ k => exact hnext k j hk

/-! ### The bound records, one after another (R108) -/

/-- The record of slot `i` is bound to line `l` with this action. -/
def State.Bound (s : State) (l : Fin 8) (i : Fin 256) (a : Action) : Prop :=
  ∃ r : Record, s.recordAt i = some r ∧ r.trigger = some ⟨l, a⟩

/-- The slots of the records bound to a line, in ascending order. -/
def State.boundSlots (s : State) (l : Fin 8) : List (Fin 256) := s.slotsWhere fun r => r.boundTo l

theorem State.mem_boundSlots {i : Fin 256} : i ∈ s.boundSlots l ↔ ∃ a, s.Bound l i a := by
  simp only [State.boundSlots, s.mem_slotsWhere, State.Bound, RecordOf.boundTo, Option.any_eq_true, beq_iff_eq]
  constructor
  · rintro ⟨r, hr, ⟨_, a⟩, htr, rfl⟩
    exact ⟨a, r, hr, htr⟩
  · rintro ⟨a, r, hr, htr⟩
    exact ⟨r, hr, _, htr, rfl⟩

theorem State.pairwise_slotsWhere (s : State) (p : Record → Bool) : (s.slotsWhere p).Pairwise (· < ·) :=
  (List.pairwise_lt_finRange 256).filter _

theorem State.pairwise_boundSlots (s : State) (l : Fin 8) : (s.boundSlots l).Pairwise (· < ·) := s.pairwise_slotsWhere _

theorem State.nodup_boundSlots (s : State) (l : Fin 8) : (s.boundSlots l).Nodup :=
  (s.pairwise_boundSlots l).imp fun h => h.ne

/-- The part after the actions of the bound records, taken by ascending slot at one Now. -/
def State.edged (s : State) (l : Fin 8) : State := (s.boundSlots l).foldl (fun v i => v.edgeAction s.td.now i) s

/-- In RUN an edge is the actions of the bound records, whatever the lines and the port are (R108). -/
theorem State.edge_run (hrun : s.pr.power = .run) (l : Fin 8) (lu : LineUnit) (hp : HostPort) :
    (s.withLinesPort lu hp).edge l = (s.edged l).withLinesPort lu hp := by
  have hpower : (s.withLinesPort lu hp).pr.power = .run := hrun
  unfold State.edge
  rw [hpower]
  exact s.foldl_edgeAction_withLinesPort lu hp s.td.now _

theorem State.keeps_edged (s : State) (l : Fin 8) : s.Keeps (s.edged l) :=
  s.keeps_foldl _ (fun v i => v.keeps_edgeAction s.td.now i) _

/-- A record that is not bound is left alone. -/
theorem State.slots_edged_unbound {i : Fin 256} (h : ∀ a, ¬ s.Bound l i a) : (s.edged l).slots[i] = s.slots[i] :=
  s.slots_foldl_of_notMem _ (fun v i j => v.slots_edgeAction_ne s.td.now i j) fun hi =>
    let ⟨a, ha⟩ := State.mem_boundSlots.mp hi
    h a ha

/-- A bound record is left as its action alone would leave it. -/
theorem State.slots_edged_bound {i : Fin 256} {a : Action} (h : s.Bound l i a) :
    (s.edged l).slots[i] = (s.edgeAction s.td.now i).slots[i] := by
  obtain ⟨v, -, hslot, hfold⟩ := s.slots_foldl_of_mem _ (fun v i => v.keeps_edgeAction s.td.now i)
    (fun v i j => v.slots_edgeAction_ne s.td.now i j) (s.nodup_boundSlots l) (State.mem_boundSlots.mpr ⟨a, h⟩)
  exact hfold.trans (State.slot_edgeAction_congr hslot _)

theorem State.edged_of_none (h : ∀ i a, ¬ s.Bound l i a) : s.edged l = s := by
  have hnil : s.boundSlots l = [] := List.eq_nil_iff_forall_not_mem.mpr fun i hi =>
    let ⟨a, ha⟩ := State.mem_boundSlots.mp hi
    h i a ha
  rw [State.edged, hnil, List.foldl_nil]

theorem State.edged_of_single {i : Fin 256} {a : Action} (h : s.Bound l i a) (hone : ∀ j b, s.Bound l j b → j = i) :
    s.edged l = s.edgeAction s.td.now i := by
  have hmem (j : Fin 256) : j ∈ s.boundSlots l ↔ j ∈ [i] := by
    rw [State.mem_boundSlots, List.mem_singleton]
    exact ⟨fun ⟨b, hb⟩ => hone j b hb, fun hj => ⟨a, hj ▸ h⟩⟩
  have hsingle : s.boundSlots l = [i] :=
    List.perm_singleton.mp ((List.perm_ext_iff_of_nodup (s.nodup_boundSlots l) (List.nodup_singleton i)).mpr hmem)
  rw [State.edged, hsingle, List.foldl_cons, List.foldl_nil]

/-- The request of a bound record's action does, but for the port, what its action does. -/
theorem State.exec_bound {i : Fin 256} {a : Action} (hsteady : v.steady .run) (h : v.Bound l i a) (held : Response) :
    ∃ hp : HostPort, exec (v.edgeRequest i a) { v with hp := freshPort held } =
      .next ((v.edgeAction v.td.now i).withLinesPort v.lu hp) :=
  let ⟨_, hr, htr⟩ := h
  State.exec_edgeRequest hsteady hr htr held

/-- Where a pass over the bound records of `s` stands: the part is settled in RUN at the Now of `s`, the slots yet to come are those of
`s`, each once and each bound, and their actions lead to `t`, but for the lines and the port. -/
structure State.EdgePass (s t : State) (l : Fin 8) (rest : List (Fin 256)) (v : State) : Prop where
  steady : v.steady .run
  now : v.td.now = s.td.now
  nodup : rest.Nodup
  bound : ∀ i ∈ rest, ∃ a, s.Bound l i a
  slots : ∀ i ∈ rest, v.slots[i] = s.slots[i]
  leads : (rest.foldl (fun w i => w.edgeAction s.td.now i) v).withLinesPort t.lu t.hp = t

/-- The port that an action's request leaves stands in the way of no later one. -/
theorem State.EdgePass.next (hpos : s.PeriodsPos) {i : Fin 256} {rest : List (Fin 256)} (h : s.EdgePass t l (i :: rest) v)
    (lu : LineUnit) (hp : HostPort) : s.EdgePass t l rest ((v.edgeAction v.td.now i).withLinesPort lu hp) := by
  have hkeep := v.keeps_edgeAction v.td.now i
  obtain ⟨hfresh, hnodup⟩ := List.nodup_cons.mp h.nodup
  obtain ⟨hsupply, hrun, hsettled⟩ := h.steady
  have hposi : ∀ r, v.recordAt i = some r → r.PeriodsPos := fun r hr =>
    hpos i r (by rw [← hr]; exact congrArg Slot.record (h.slots i List.mem_cons_self).symm)
  refine ⟨⟨hkeep.supply.trans hsupply, (congrArg _ hkeep.pr).trans hrun, State.settled_edgeAction hsettled hposi⟩,
    (congrArg _ hkeep.td).trans h.now, hnodup, fun j hj => h.bound j (List.mem_cons_of_mem i hj), fun j hj => ?slots, ?leads⟩
  case slots =>
    have hij : i ≠ j := fun e => hfresh (e ▸ hj)
    exact (v.slots_edgeAction_ne _ i j hij).trans (h.slots j (List.mem_cons_of_mem i hj))
  case leads =>
    have hleads := h.leads
    rw [List.foldl_cons] at hleads
    rw [State.foldl_edgeAction_withLinesPort, h.now]
    exact hleads

/-- Under periods that are not 0 the requests of the bound records' actions, each at a fresh port, lead one after another to what the
edge leads to. -/
theorem State.edged_visits (hsteady : s.steady .run) (hpos : s.PeriodsPos) (l : Fin 8) (lu : LineUnit) (hp : HostPort)
    (held : Response) :
    ∃ visit : Nat → State, visit 0 = s ∧
      (∀ (k : Nat) (i : Fin 256), (s.boundSlots l)[k]? = some i → ∀ a, s.Bound l i a →
        exec (s.edgeRequest i a) { visit k with hp := freshPort held } = .next (visit (k + 1))) ∧
      (s.edged l).withLinesPort lu hp = (visit (s.boundSlots l).length).withLinesPort lu hp := by
  have hstart : s.EdgePass ((s.edged l).withLinesPort lu hp) l (s.boundSlots l) s :=
    ⟨hsteady, rfl, s.nodup_boundSlots l, fun i hi => State.mem_boundSlots.mp hi, fun _ _ => rfl, rfl⟩
  have hstep : ∀ i rest v, s.EdgePass ((s.edged l).withLinesPort lu hp) l (i :: rest) v →
      ∃ u, (∀ a, s.Bound l i a → exec (s.edgeRequest i a) { v with hp := freshPort held } = .next u) ∧
        s.EdgePass ((s.edged l).withLinesPort lu hp) l rest u := by
    intro i rest v h
    have hslot := h.slots i List.mem_cons_self
    have hbound (a : Action) : v.Bound l i a ↔ s.Bound l i a := by
      simp only [State.Bound, State.recordAt, hslot]
    obtain ⟨a, ha⟩ := h.bound i List.mem_cons_self
    obtain ⟨port, hexec⟩ := State.exec_bound h.steady ((hbound a).mpr ha) held
    refine ⟨_, fun b hb => ?_, h.next hpos v.lu port⟩
    obtain ⟨r, hr, htr⟩ := ha
    obtain ⟨r', hr', htr'⟩ := hb
    cases hr.symm.trans hr'
    cases htr.symm.trans htr'
    rw [← State.edgeRequest_congr hslot]
    exact hexec
  obtain ⟨visit, hfirst, hnext, hlast⟩ := exists_visit _ _ hstep _ s hstart
  exact ⟨visit, hfirst, hnext, hlast.leads.symm⟩

/-! ### The statements -/

/-- Settles O37: an edge in RUN is the fold of the bound records' actions, each of which is its request but for the port. -/
theorem candidateAccepted : Obligations.CandidateAccepted := by
  intro s p l c hsteady hp hc line lu admitted bound fresh single
  have hadmits : s.lu.lines[l].config.edgeSelect.admits c.level = true ↔ admitted := EdgeSelect.admits_iff _ _
  have hexec := State.exec_candidateAccepted hsteady hp hc
  have hsingle (i : Fin 256) (a : Action) : single i a = s.edgeRequest i a := by cases a <;> rfl
  refine ⟨fun hnot => ?level, fun hadm hrun => ?ignored, fun hadm hrun => ?run⟩
  case level => rw [hexec, State.accept_of_not_admits (hnot ∘ hadmits.mp)]; rfl
  case ignored =>
    rw [← hsteady.2.1] at hp hrun
    have hedge := State.edge_outside_run (s := s.withLinesPort (s.lu.accepted l c.level) s.hp) hp hrun l
    rw [hexec, State.accept_of_admits (hadmits.mpr hadm), hedge]
    rfl
  case run =>
    subst hrun
    have hkeep := s.keeps_edged l
    rw [hexec, State.accept_of_admits (hadmits.mpr hadm), State.edge_run hsteady.2.1]
    refine ⟨(s.edged l).withLinesPort lu s.hp, rfl, rfl, hkeep.td, hkeep.pr, rfl, hkeep.routes,
      fun i => State.slots_edged_unbound, fun i a h => ?record, fun h => ?none, fun i a h hone => ?one, fun hwf => ?several⟩
    case record =>
      obtain ⟨port, hu⟩ := State.exec_bound hsteady h s.hp.held
      exact ⟨(s.edgeAction s.td.now i).withLinesPort s.lu port, hsingle i a ▸ hu, State.slots_edged_bound h⟩
    case none => rw [State.edged_of_none h]; rfl
    case one =>
      obtain ⟨port, hu⟩ := State.exec_bound hsteady h s.hp.held
      exact ⟨_, hsingle i a ▸ hu, by rw [State.edged_of_single h hone]; rfl⟩
    case several =>
      obtain ⟨visit, hfirst, hnext, hlast⟩ := State.edged_visits hsteady (State.recordsWf.periodsPos hwf) l lu s.hp s.hp.held
      exact ⟨s.boundSlots l, visit, s.pairwise_boundSlots l, fun i => State.mem_boundSlots, hfirst,
        fun k i a hk ha => hsingle i a ▸ hnext k i hk a ha, hlast⟩

end Sys2Proof.Machine
end

-- ==== Input lines: samples, SET_LINE, BIND and UNBIND ====
section
/-! SUPPORT. What a sample does to a line's candidate (R100), and how SET_LINE, BIND and UNBIND are answered (R102, R105, R106). -/

namespace Sys2Proof.Machine

variable {s : State} {l : Fin 8}

/-! ### Samples (R100) -/

/-- Acceptance does not read the candidate. -/
theorem State.accept_putLine (s : State) (l : Fin 8) (cand : Option Candidate) (level : Bool) :
    (s.putLine l { s.lu.lines[l] with candidate := cand }).accept l level = s.accept l level := by
  simp [State.accept, State.putLine]

section
variable {p : PowerState} {level : Bool} (hsteady : s.steady p)
include hsteady

theorem State.exec_sample_loading (hp : p = .loading) : exec (.sampledLevelChange l level) s = .next s := by
  change execSampledLevelChange l level s = _
  rw [execSampledLevelChange, s.event_of_steady hsteady, hsteady.2.1, hp]

/-- Where the filter runs, a sample is judged by the filtered level, then by the filter width, then by the candidate. -/
theorem State.exec_sample (hp : p ≠ .loading) :
    exec (.sampledLevelChange l level) s = .next
      (if level = s.lu.lines[l].level then s.putLine l { s.lu.lines[l] with candidate := none }
      else if s.lu.lines[l].config.filterWidth = 0 then s.accept l level
      else if s.lu.lines[l].candidate.isSome then s
      else s.putLine l { s.lu.lines[l] with candidate := some ⟨level, s.refclk⟩ }) := by
  change execSampledLevelChange l level s = _
  rw [execSampledLevelChange, s.event_of_steady hsteady]
  rw [← hsteady.2.1] at hp
  cases hpower : s.pr.power with
  | loading => exact absurd hpower hp
  | recovered | run | hold | parked => rfl

end

/-- Settles O36: a sample is judged in R100's order, and width 0 accepts it as a candidate of its level is accepted. -/
theorem sampledLevelFiltered : Obligations.SampledLevelFiltered := by
  intro s p l level hsteady line withCandidate
  refine ⟨State.exec_sample_loading hsteady, fun hp heq => ?equal, fun hp hne hwidth hnone => ?created,
    fun hp hne hwidth hsome => ?kept, fun hp hne hwidth => ?accepted⟩
  all_goals rw [State.exec_sample hsteady hp]
  case equal => rw [if_pos heq]; rfl
  case created =>
    have hcand : ¬ line.candidate.isSome = true := by rw [hnone]; nofun
    rw [if_neg hne, if_neg hwidth, if_neg hcand]
    rfl
  case kept => rw [if_neg hne, if_neg hwidth, if_pos (Option.isSome_iff_ne_none.mpr hsome)]
  case accepted =>
    have hcand : (withCandidate (some ⟨level, s.refclk⟩)).lu.lines[l].candidate = some ⟨level, s.refclk⟩ := by
      simp [withCandidate]
    rw [if_neg hne, if_pos hwidth, State.exec_candidateAccepted (s := withCandidate _) hsteady hp hcand]
    exact congrArg _ (s.accept_putLine l _ level).symm

/-! ### SET_LINE (R102) -/

/-- The number of an edge select, in R99's order. -/
def EdgeSelect.code : EdgeSelect → Byte
  | .none => 0
  | .rise => 1
  | .fall => 2
  | .both => 3

theorem edgeSelectOf_code (e : EdgeSelect) : edgeSelectOf e.code = some e := by cases e <;> rfl

theorem edgeSelectOf_eq_none {y : Byte} (h : 4 ≤ y.toNat) : edgeSelectOf y = none := by
  unfold edgeSelectOf
  split
  case h_5 => rfl
  all_goals omega

theorem State.setLine_badField {x y z : Byte} (h : 8 ≤ x.toNat ∨ 4 ≤ y.toNat ∨ 16 ≤ z.toNat) :
    s.setLine x y z = ⟨s, .badField, []⟩ := by
  unfold State.setLine
  rcases h with hx | hy | hz
  · simp only [finOf_eq_none hx, refuse]
  · simp only [edgeSelectOf_eq_none hy, refuse]
    cases finOf 8 x <;> rfl
  · simp only [finOf_eq_none hz, refuse]
    cases finOf 8 x with
    | none => rfl
    | some => cases edgeSelectOf y <;> rfl

/-- The line after SET_LINE: its candidate starts again. -/
def Line.reconfigured (line : Line) (config : LineConfig) (refclk : Nat) : Line :=
  { line with config := config, candidate := line.candidate.map fun c => ⟨c.level, refclk⟩ }

theorem State.setLine_eq {x y z : Byte} {e : EdgeSelect} {w : Fin 16} (hx : finOf 8 x = some l) (hy : edgeSelectOf y = some e)
    (hz : finOf 16 z = some w) :
    s.setLine x y z = ⟨s.putLine l (s.lu.lines[l].reconfigured ⟨e, w⟩ s.refclk), .done,
      [boolCode s.lu.lines[l].level, boolCode s.lu.lines[l].candidate.isSome]⟩ := by
  simp only [State.setLine, hx, hy, hz, Line.reconfigured, Option.isSome_map]

/-- Settles O38, in the order of R102's tests. -/
theorem setLineDecided : Obligations.SetLineDecided := by
  refine ⟨fun seq x y z => refusedOutsideRun_of_request fun _ => rfl, fun s seq x y z hready => ⟨fun h => ?field, ?set⟩⟩
  case field => exact State.exec_of_owner (fun _ => rfl) hready (State.setLine_badField h)
  case set =>
    intro l e w hl hw hy line new
    have hcode : edgeSelectOf y = some e := by
      rw [hy, ← edgeSelectOf_code e]
      cases e <;> rfl
    exact State.exec_of_owner (u := s.putLine l new) (fun _ => rfl) hready
      (State.setLine_eq (finOf_of_val hl) hcode (finOf_of_val hw))

/-! ### BIND and UNBIND (R105, R106) -/

theorem actionOf_code (a : Action) : actionOf a.code = some a := by cases a <;> rfl

theorem actionOf_eq_none {y : Byte} (h : 3 ≤ y.toNat) : actionOf y = none := by
  unfold actionOf
  split
  case h_4 => rfl
  all_goals omega

section
variable {h : Handle} {r : Record} {x y : Byte} {a : Action}

theorem State.bindRecord_badHandle (hr : s.recordOf h = none) : s.bindRecord h x y = ⟨s, .badHandle, []⟩ := by
  simp only [State.bindRecord, hr, refuse]

theorem State.bindRecord_badField (hr : s.recordOf h = some r) (hxy : 8 ≤ x.toNat ∨ 3 ≤ y.toNat) :
    s.bindRecord h x y = ⟨s, .badField, []⟩ := by
  rcases hxy with hx | hy
  · simp only [State.bindRecord, hr, finOf_eq_none hx, refuse]
  · simp only [State.bindRecord, hr, actionOf_eq_none hy, refuse]
    cases finOf 8 x <;> rfl

/-- RENEW is for the kinds that can be renewed (R105). -/
theorem State.bindRecord_badKind (hr : s.recordOf h = some r) (hx : finOf 8 x = some l) (hy : actionOf y = some .renew)
    (hk : r.kind.supervises = false) : s.bindRecord h x y = ⟨s, .badKind, []⟩ := by
  simp only [State.bindRecord, hr, hx, hy, hk, refuse]
  rfl

theorem State.bindRecord_eq (hr : s.recordOf h = some r) (hx : finOf 8 x = some l) (hy : actionOf y = some a)
    (hk : a ≠ .renew ∨ r.kind.supervises = true) :
    s.bindRecord h x y = ⟨s.putRecord h.slot { r with trigger := some ⟨l, a⟩ }, .done, triggerOptionBytes r.trigger⟩ := by
  have hadmitted : ¬ (a == .renew && !r.kind.supervises) = true := by
    rcases hk with ha | hsup
    · simp [ha]
    · simp [hsup]
  simp only [State.bindRecord, hr, hx, hy, if_neg hadmitted]

theorem State.unbindRecord_badHandle (hr : s.recordOf h = none) : s.unbindRecord h = ⟨s, .badHandle, []⟩ := by
  simp only [State.unbindRecord, hr, refuse]

theorem State.unbindRecord_eq (hr : s.recordOf h = some r) :
    s.unbindRecord h = ⟨s.putRecord h.slot { r with trigger := none }, .done, triggerOptionBytes r.trigger⟩ := by
  simp only [State.unbindRecord, hr]

end

/-- Settles O39, in R105's order of tests: the handle, the values, the kind. -/
theorem bindAndUnbindDecided : Obligations.BindAndUnbindDecided := by
  refine ⟨fun seq x y h => ⟨refusedOutsideRun_of_request fun _ => rfl, refusedOutsideRun_of_request fun _ => rfl⟩,
    fun s seq x y h hready => ⟨fun hr => ?handle, fun r hr => ?record⟩⟩
  all_goals rw [← s.recordOf_endFrame] at hr
  case handle =>
    exact ⟨State.exec_of_owner (fun _ => rfl) hready (State.bindRecord_badHandle hr),
      State.exec_of_owner (fun _ => rfl) hready (State.unbindRecord_badHandle hr)⟩
  case record =>
    intro number before
    have hnumber (a : Action) : number a = a.code := by cases a <;> rfl
    have hbefore : before = triggerOptionBytes r.trigger := by
      simp only [before, hnumber]
      cases r.trigger <;> rfl
    rw [hbefore]
    refine ⟨fun hxy => ?field, fun l a hl hy => ⟨fun ha hk => ?kind, fun hk => ?bind⟩, ?unbind⟩
    case field => exact State.exec_of_owner (fun _ => rfl) hready (State.bindRecord_badField hr hxy)
    case kind =>
      have hsup : r.kind.supervises = false := by rcases hk with hk | hk <;> rw [hk] <;> rfl
      have hrenew : actionOf y = some .renew := by rw [hy, hnumber, actionOf_code, ha]
      exact State.exec_of_owner (fun _ => rfl) hready (State.bindRecord_badKind hr (finOf_of_val hl) hrenew hsup)
    case bind =>
      have hadmitted : a ≠ .renew ∨ r.kind.supervises = true :=
        hk.imp_right fun hk => by rcases hk with hk | hk <;> rw [hk] <;> rfl
      have haction : actionOf y = some a := by rw [hy, hnumber, actionOf_code]
      exact State.exec_of_owner (u := s.putRecord h.slot { r with trigger := some ⟨l, a⟩ }) (fun _ => rfl) hready
        (State.bindRecord_eq hr (finOf_of_val hl) haction hadmitted)
    case unbind =>
      exact State.exec_of_owner (u := s.putRecord h.slot { r with trigger := none }) (fun _ => rfl) hready
        (State.unbindRecord_eq hr)

end Sys2Proof.Machine
end

-- ==== Output lines and the safe state: ROUTE ====
section
/-! SUPPORT. Which values ROUTE takes for a source, what it writes of the route table, and what it reports (R117, R118). -/

namespace Sys2Proof.Machine

variable {s : State} {b : RouteBody} {type : SourceType} {source : Source} {safeLevel : Bool} {o : Fin 16}

/-! ### The bytes of a source -/

theorem boolOf_boolCode (x : Bool) : boolOf (boolCode x) = some x := by cases x <;> rfl

theorem pairOpOf_code (op : PairOp) : pairOpOf op.code = some op := by cases op <;> rfl

theorem pairOpOf_eq_none {x : Byte} (h : 4 ≤ x.toNat) : pairOpOf x = none := by
  unfold pairOpOf
  split
  case h_5 => rfl
  all_goals omega

/-- The source type is in range and each handle it uses names a record: what R117 tests first. -/
def State.GoodRouteHandles (s : State) (b : RouteBody) : Prop :=
  b.sourceType = 0 ∨ (b.sourceType = 1 ∧ (s.recordOf b.a).isSome = true) ∨
    (b.sourceType = 2 ∧ (s.recordOf b.a).isSome = true ∧ (s.recordOf b.b).isSome = true)

/-- The source that the body carries: its type, its handles and its level, *invert* or operator. -/
def Source.CarriedBy (source : Source) (b : RouteBody) : Prop :=
  match source with
  | .static level => b.sourceType = 0 ∧ b.item = boolCode level
  | .record h invert => b.sourceType = 1 ∧ h = b.a ∧ b.item = boolCode invert
  | .pair h h' op => b.sourceType = 2 ∧ h = b.a ∧ h' = b.b ∧ b.item = op.code

theorem State.GoodRouteHandles.passes (h : s.GoodRouteHandles b) :
    ∃ type, sourceTypeOf b.sourceType = some type ∧ s.badRouteHandle type b = none := by
  rcases h with htype | ⟨htype, ha⟩ | ⟨htype, ha, hb⟩
  · exact ⟨.static, by rw [htype]; rfl, rfl⟩
  · exact ⟨.record, by rw [htype]; rfl, by simp [State.badRouteHandle, Option.isSome_iff_ne_none.mp ha]⟩
  · exact ⟨.pair, by rw [htype]; rfl,
      by simp [State.badRouteHandle, Option.isSome_iff_ne_none.mp ha, Option.isSome_iff_ne_none.mp hb]⟩

theorem Source.CarriedBy.routeSource (h : source.CarriedBy b) (htype : sourceTypeOf b.sourceType = some type) :
    routeSource type b = some source := by
  cases source with
  | static level =>
    obtain ⟨hbyte, hitem⟩ := h
    obtain rfl : SourceType.static = type := by simpa [hbyte, sourceTypeOf] using htype
    simp [Machine.routeSource, hitem, boolOf_boolCode]
  | record h invert =>
    obtain ⟨hbyte, rfl, hitem⟩ := h
    obtain rfl : SourceType.record = type := by simpa [hbyte, sourceTypeOf] using htype
    simp [Machine.routeSource, hitem, boolOf_boolCode]
  | pair h h' op =>
    obtain ⟨hbyte, rfl, rfl, hitem⟩ := h
    obtain rfl : SourceType.pair = type := by simpa [hbyte, sourceTypeOf] using htype
    simp [Machine.routeSource, hitem, pairOpOf_code]

/-- A level or *invert* is below 2 and an operator below 4. -/
theorem routeSource_eq_none (htype : sourceTypeOf b.sourceType = some type)
    (h : (b.sourceType ≠ 2 ∧ 2 ≤ b.item.toNat) ∨ 4 ≤ b.item.toNat) : routeSource type b = none := by
  have hbool : 2 ≤ b.item.toNat := by omega
  cases type with
  | static => simp [routeSource, boolOf_eq_none hbool]
  | record => simp [routeSource, boolOf_eq_none hbool]
  | pair =>
    have hop : 4 ≤ b.item.toNat := by
      rcases h with ⟨hne, -⟩ | hop
      · refine absurd ?_ hne
        unfold sourceTypeOf at htype
        split at htype
        case h_3 hbyte => exact BitVec.eq_of_toNat_eq hbyte
        all_goals cases htype
      · exact hop
    simp [routeSource, pairOpOf_eq_none hop]

/-! ### The route table and the response -/

/-- The part with one route replaced and the four bytes taken that a report of the previous one may leave open (log 12). -/
def State.routed (s : State) (o : Fin 16) (r : Route) : State :=
  { s with ou := { s.ou with routes := s.ou.routes.set o r }, freeCount := s.freeCount + 4 }

/-- In RUN the line then drives the new entry (R116, R120). -/
theorem State.driven_routed (s : State) (h : s.pr.power = .run) (o : Fin 16) (r : Route) :
    (s.routed o r).driven o = if s.ou.safe.isSome = true then r.safeLevel else s.routeValue r.source := by
  have hvalue : ∀ source, (s.routed o r).routeValue source = s.routeValue source := fun source => by cases source <;> rfl
  simp only [State.driven, hvalue]
  simp [State.routed, h]

theorem State.routeOutput_badField (hgood : s.GoodRouteHandles b)
    (h : 16 ≤ b.output.toNat ∨ 2 ≤ b.safeLevel.toNat ∨ (b.sourceType ≠ 2 ∧ 2 ≤ b.item.toNat) ∨ 4 ≤ b.item.toNat) :
    s.routeOutput b = ⟨s, .badField, []⟩ := by
  obtain ⟨type, htype, hhandles⟩ := hgood.passes
  simp only [State.routeOutput, htype, hhandles]
  rcases h with ho | hsafe | hitem
  · simp only [finOf_eq_none ho, refuse]
  · simp only [boolOf_eq_none hsafe, refuse]
    cases finOf 16 b.output <;> rfl
  · simp only [routeSource_eq_none htype hitem, refuse]
    cases finOf 16 b.output with
    | none => rfl
    | some => cases boolOf b.safeLevel <;> rfl

theorem State.routeOutput_eq (hrun : s.pr.power = .run) (hgood : s.GoodRouteHandles b) (ho : finOf 16 b.output = some o)
    (hsafe : boolOf b.safeLevel = some safeLevel) (hsource : source.CarriedBy b) :
    s.routeOutput b = ⟨s.routed o ⟨source, safeLevel⟩, .done,
      routeBytes s.ou.routes[o] (fun n => Config.freeByte (s.freeCount + n)) ++
        [boolCode (if s.ou.safe.isSome = true then safeLevel else s.routeValue source)]⟩ := by
  obtain ⟨type, htype, hhandles⟩ := hgood.passes
  rw [← s.driven_routed hrun o ⟨source, safeLevel⟩]
  simp only [State.routeOutput, htype, hhandles, ho, hsafe, hsource.routeSource htype]
  rfl

section
variable (r : Route) (free : Nat → Byte)

theorem length_routeBytes : (routeBytes r free).length = 7 := by
  unfold routeBytes
  cases r.source <;> rfl

theorem take_one_routeBytes : (routeBytes r free).take 1 = [boolCode r.safeLevel] := by
  unfold routeBytes
  cases r.source <;> rfl

end

/-- Settles O40: the handles, the other values, and the entry with what is reported of it, in R117's order. -/
theorem routeDecided : Obligations.RouteDecided := by
  intro s seq b hready goodHandles
  refine ⟨fun hgood hvalue => ?field, fun hgood o safeLevel level op source ho hsafe hsource => ?route⟩
  all_goals have hgood : s.endFrame.GoodRouteHandles b := hgood
  case field => exact State.exec_of_owner (fun _ => rfl) hready (State.routeOutput_badField hgood hvalue)
  case route =>
    have hlevel : boolOf b.safeLevel = some safeLevel := by
      rw [hsafe]
      exact boolOf_boolCode safeLevel
    have hcarries : source.CarriedBy b := by
      rcases hsource with ⟨htype, rfl, hitem⟩ | ⟨htype, rfl, hitem⟩ | ⟨htype, rfl, hitem⟩
      · exact ⟨htype, hitem⟩
      · exact ⟨htype, rfl, hitem⟩
      · refine ⟨htype, rfl, rfl, hitem.trans ?_⟩
        cases op <;> rfl
    refine ⟨routeBytes s.ou.routes[o] fun n => Config.freeByte (s.freeCount + n), ?_, length_routeBytes _ _,
      take_one_routeBytes _ _, ?_⟩
    · exact State.exec_of_owner (u := s.routed o ⟨source, safeLevel⟩) (fun _ => rfl) hready
        (State.routeOutput_eq (s := s.endFrame) hready.1.2.1 hgood (finOf_of_val ho) hlevel hcarries)
    · unfold routeBytes
      cases s.ou.routes[o].source with
      | static | record => rfl
      | pair h h' op => cases op <;> rfl

end Sys2Proof.Machine
end

-- ==== Output lines and the safe state: SAFE and RELEASE ====
section
/-! SUPPORT. Which records block RELEASE (R80), and how the output unit answers SAFE and RELEASE (R125, R126). -/

namespace Sys2Proof.Machine

/-! ### Records that block (R80) -/

/-- LAPSED, or PAUSED or PARKED out of it. -/
theorem Timing.faulted_iff (t : Timing) :
    t.faulted = true ↔ (∃ (phase : Phase) (start due : Time), t = .active .lapsed phase start due) ∨
      ∃ (phase : Phase) (remaining : Time), t = .paused .lapsed phase remaining ∨ t = .parked .lapsed phase remaining := by
  cases t with
  | idle => simp [Timing.faulted]
  | active run | paused run | parked run => cases run <;> simp [Timing.faulted]

theorem RecordOf.blocksRelease_iff (r : Record) :
    r.blocksRelease = true ↔ (r.consequence = .safe ∨ r.consequence = .safeAndReset) ∧ r.timing.faulted = true := by
  unfold RecordOf.blocksRelease
  cases r.consequence <;> simp

/-- The slot holds a record that blocks RELEASE. -/
def State.Blocks (s : State) (i : Fin 256) : Prop := ∃ r : Record, s.recordAt i = some r ∧ r.blocksRelease = true

/-! ### The requests at the output unit -/

section
variable {s : State} {c : Cause} {i : Fin 256}

theorem State.safeRequest_clear (h : s.ou.safe = none) :
    s.safeRequest = ⟨{ s with ou := { s.ou with safe := some .host } }.postSystem (.safeEntered .host) s.td.now, .done,
      [1, 1, 0, 0]⟩ := by
  rw [State.safeRequest, s.enterSafe_clear h, h]
  rfl

theorem State.safeRequest_set (h : s.ou.safe = some c) : s.safeRequest = ⟨s, .done, 0 :: causeBytes (some c)⟩ := by
  rw [State.safeRequest, s.enterSafe_set h, h]
  rfl

theorem State.releaseSafe_clear (h : s.ou.safe = none) : s.releaseSafe = ⟨s, .done, [2, 0, 0]⟩ := by
  simp only [State.releaseSafe, h, causeBytes]

/-- The lowest slot that blocks is the first that the test finds. -/
theorem State.releaseSafe_blocked (h : s.ou.safe = some c) (hi : s.Blocks i) (hlow : ∀ j : Fin 256, j < i → ¬ s.Blocks j) :
    s.releaseSafe = ⟨s, .blocked, bytesHandle (s.handleAt i)⟩ := by
  obtain ⟨r, hr, hblocks⟩ := hi
  obtain ⟨rest, hrest⟩ := s.slotsWhere_eq_cons (fun r => r.blocksRelease) hr hblocks
    fun j r' hj hr' => Bool.eq_false_iff.mpr fun hb => hlow j hj ⟨r', hr', hb⟩
  simp only [State.releaseSafe, h, hrest, refuse]

theorem State.releaseSafe_free (h : s.ou.safe = some c) (hfree : ∀ i : Fin 256, ¬ s.Blocks i) :
    s.releaseSafe = ⟨{ s with ou := { s.ou with safe := none } }, .done, causeBytes (some c)⟩ := by
  have hnone := s.slotsWhere_eq_nil (fun r => r.blocksRelease)
    fun j r hr => Bool.eq_false_iff.mpr fun hb => hfree j ⟨r, hr, hb⟩
  simp only [State.releaseSafe, h, hnone]

end

/-- Settles O42: SAFE by whether the safe state is clear, RELEASE by that and then by the lowest slot that blocks. -/
theorem safeAndReleaseDecided : Obligations.SafeAndReleaseDecided := by
  refine ⟨fun seq => ⟨refusedOutsideRun_of_request fun _ => rfl, refusedOutsideRun_of_request fun _ => rfl⟩, ?_⟩
  intro s seq hready blocks bytes
  have hblocks (i : Fin 256) : blocks i ↔ s.endFrame.Blocks i :=
    exists_congr fun r => and_congr_right fun _ => by rw [r.blocksRelease_iff, Timing.faulted_iff]
  have hbytes (c : Cause) : bytes c = causeBytes (some c) := by cases c <;> rfl
  refine ⟨fun hclear => ?enter, fun c hset => ?already, fun hclear => ?clear, fun c i hset hi hlow => ?blocked,
    fun c hset hfree => ?released⟩
  case enter =>
    exact State.exec_of_owner
      (u := ({ s with ou := { s.ou with safe := some .host } } : State).postSystem (.safeEntered .host) s.td.now)
      (fun _ => rfl) hready (State.safeRequest_clear (s := s.endFrame) hclear)
  case already =>
    rw [hbytes]
    exact State.exec_of_owner (fun _ => rfl) hready (State.safeRequest_set (s := s.endFrame) hset)
  case clear => exact State.exec_of_owner (fun _ => rfl) hready (State.releaseSafe_clear (s := s.endFrame) hclear)
  case blocked =>
    exact State.exec_of_owner (fun _ => rfl) hready
      (State.releaseSafe_blocked (s := s.endFrame) hset ((hblocks i).mp hi) fun j hj hb => hlow j hj ((hblocks j).mpr hb))
  case released =>
    rw [hbytes]
    exact State.exec_of_owner (u := { s with ou := { s.ou with safe := none } }) (fun _ => rfl) hready
      (State.releaseSafe_free (s := s.endFrame) hset fun i hb => hfree i ((hblocks i).mpr hb))

end Sys2Proof.Machine
end

-- ==== Notifications: postings ====
section
/-! SUPPORT. What an entry is of, the one way in which the queue takes a posting of either sort (R133, R134), and that it keeps the
queue well formed (R130 to R132). -/

namespace Sys2Proof.Machine

/-! ### The subject of an entry -/

/-- What an entry is of: the handle of a record entry, the kind of a system entry (R130, R131). -/
def Entry.subject (e : Entry) : Handle ⊕ SystemKind :=
  match e.content with
  | .record h _ _ _ => .inl h
  | .system info => .inr info.kind

section
variable (e f : Entry)

theorem Entry.isOf_iff (h : Handle) : e.isOf h = true ↔ e.subject = .inl h := by
  unfold Entry.isOf Entry.subject
  cases e.content <;> simp

theorem Entry.handle?_eq_some_iff (h : Handle) : e.handle? = some h ↔ e.subject = .inl h := by
  unfold Entry.handle? Entry.subject
  cases e.content <;> simp

theorem Entry.isKind_iff (k : SystemKind) : e.isKind k = true ↔ e.subject = .inr k := by
  unfold Entry.isKind Entry.subject
  cases e.content <;> simp

theorem Entry.system_kind_iff (k : SystemKind) :
    (∃ info : SystemInfo, e.content = .system info ∧ info.kind = k) ↔ e.subject = .inr k := by
  unfold Entry.subject
  cases e.content <;> simp

theorem Entry.sameSubject_eq_false_iff : e.sameSubject f = false ↔ e.subject ≠ f.subject := by
  unfold Entry.sameSubject Entry.subject
  cases e.content <;> cases f.content <;> simp

end

/-! ### Merging -/

section
variable (e : Entry)

/-- A merged entry is still of its record. -/
theorem Entry.subject_mergeOccurrence (tag : BitVec 16) (pri : Fin 8) (k : Occurrence) (t : Time) :
    (e.mergeOccurrence tag pri k t).subject = e.subject := by
  unfold Entry.mergeOccurrence
  cases he : e.content with
  | record => simp [Entry.subject, he]
  | system => rfl

theorem Entry.subject_mergeSystem (info : SystemInfo) (t : Time) : (e.mergeSystem info t).subject = .inr info.kind := rfl

theorem satIncr_ne_zero {n : BitVec 8} : satIncr n ≠ 0#8 := by
  unfold satIncr
  split
  · decide
  · bv_omega

theorem Occurrence.bit_ne_zero (k : Occurrence) : k.bit ≠ 0#6 := by cases k <;> decide

variable {e}

theorem Entry.wf_mergeOccurrence (h : e.wf = true) (tag : BitVec 16) (pri : Fin 8) (k : Occurrence) (t : Time) :
    (e.mergeOccurrence tag pri k t).wf = true := by
  unfold Entry.mergeOccurrence
  cases he : e.content with
  | record => simp [Entry.wf, satIncr_ne_zero, k.bit_ne_zero]
  | system => exact h

theorem Entry.wf_mergeSystem (info : SystemInfo) (t : Time) : (e.mergeSystem info t).wf = true := by
  simp [Entry.wf, Entry.mergeSystem, satIncr_ne_zero]

end

/-! ### A posting of either sort -/

/-- A posting merges into every entry that `mine` picks out, or joins as the youngest entry when there is none. -/
def mergeOrJoin (mine : Entry → Bool) (merge : Entry → Entry) (new : Entry) (q : List Entry) : List Entry :=
  if q.any mine then q.map fun e => if mine e then merge e else e else q ++ [new]

theorem postOccurrence_eq (q : List Entry) (h : Handle) (tag : BitVec 16) (pri : Fin 8) (k : Occurrence) (t : Time) :
    postOccurrence q h tag pri k t =
      mergeOrJoin (·.isOf h) (·.mergeOccurrence tag pri k t) ⟨.record h tag pri k.bit, 1, t, t⟩ q := rfl

theorem postSystemEntry_eq (q : List Entry) (info : SystemInfo) (t : Time) :
    postSystemEntry q info t = mergeOrJoin (·.isKind info.kind) (·.mergeSystem info t) ⟨.system info, 1, t, t⟩ q := rfl

section
variable {mine : Entry → Bool} {merge : Entry → Entry} {new e : Entry} {before after q : List Entry}

/-- A merge leaves the other entries, and the place of its own, as they are. -/
theorem mergeOrJoin_of_mem (he : mine e = true) (hothers : ∀ x ∈ before ++ after, mine x = false) :
    mergeOrJoin mine merge new (before ++ e :: after) = before ++ merge e :: after := by
  rw [List.forall_mem_append] at hothers
  obtain ⟨hbefore, hafter⟩ := hothers
  have hstill : ∀ l : List Entry, (∀ x ∈ l, mine x = false) → (l.map fun x => if mine x then merge x else x) = l :=
    fun l hl => (List.map_congr_left fun x hx => by simp [hl x hx]).trans l.map_id
  rw [mergeOrJoin, if_pos (by simp [he]), List.map_append, List.map_cons, hstill before hbefore, hstill after hafter, if_pos he]

theorem mergeOrJoin_of_notMem (h : ∀ x ∈ q, mine x = false) : mergeOrJoin mine merge new q = q ++ [new] := by
  rw [mergeOrJoin, if_neg]
  simpa using h

/-! ### The queue stays well formed -/

/-- No two entries of a queue are of one subject, and each is well formed (R130 to R132). -/
def entriesWf (q : List Entry) : Prop := (q.map Entry.subject).Nodup ∧ ∀ e ∈ q, e.wf = true

theorem State.queueWf_iff {s : State} : s.queueWf ↔ entriesWf s.nq.entries := by
  simp only [State.queueWf, entriesWf, List.Nodup, List.pairwise_map, Entry.sameSubject_eq_false_iff]

theorem entriesWf.sublist {q' : List Entry} (h : entriesWf q) (hq : q'.Sublist q) : entriesWf q' :=
  ⟨h.1.sublist (hq.map Entry.subject), fun e he => h.2 e (hq.subset he)⟩

/-- A posting keeps the queue well formed when it picks out the entries of its own subject and merging leaves them of it. -/
theorem entriesWf.mergeOrJoin (h : entriesWf q) (hmine : ∀ e, mine e = true ↔ e.subject = new.subject)
    (hsubject : ∀ e, mine e = true → (merge e).subject = e.subject) (hwf : ∀ e, e.wf = true → (merge e).wf = true)
    (hnew : new.wf = true) : entriesWf (mergeOrJoin mine merge new q) := by
  obtain ⟨hnodup, hall⟩ := h
  unfold Machine.mergeOrJoin
  split
  · refine ⟨?_, fun x hx => ?_⟩
    · have hsame : ((q.map fun e => if mine e then merge e else e).map Entry.subject) = q.map Entry.subject := by
        rw [List.map_map]
        refine List.map_congr_left fun e _ => ?_
        by_cases he : mine e = true
        · simp [he, hsubject e he]
        · simp [he]
      rwa [hsame]
    · obtain ⟨e, he, rfl⟩ := List.mem_map.mp hx
      split
      · exact hwf e (hall e he)
      · exact hall e he
  · next hnone =>
    have habsent : new.subject ∉ q.map Entry.subject := fun hmem => by
      obtain ⟨e, he, hsub⟩ := List.mem_map.mp hmem
      exact hnone (List.any_eq_true.mpr ⟨e, he, (hmine e).mpr hsub⟩)
    refine ⟨?_, fun x hx => ?_⟩
    · rw [List.map_append]
      exact hnodup.append (List.nodup_singleton _) (List.disjoint_singleton.mpr habsent)
    · rcases List.mem_append.mp hx with hx | hx
      · exact hall x hx
      · exact List.mem_singleton.mp hx ▸ hnew

end

theorem entriesWf.postOccurrence {q : List Entry} (h : entriesWf q) (handle : Handle) (tag : BitVec 16) (pri : Fin 8)
    (k : Occurrence) (t : Time) : entriesWf (postOccurrence q handle tag pri k t) := by
  rw [postOccurrence_eq]
  refine h.mergeOrJoin (fun e => e.isOf_iff handle) (fun e _ => e.subject_mergeOccurrence tag pri k t)
    (fun e he => Entry.wf_mergeOccurrence he tag pri k t) ?_
  cases k <;> rfl

theorem entriesWf.postSystemEntry {q : List Entry} (h : entriesWf q) (info : SystemInfo) (t : Time) :
    entriesWf (postSystemEntry q info t) := by
  rw [postSystemEntry_eq]
  exact h.mergeOrJoin (fun e => e.isKind_iff info.kind)
    (fun e he => (e.subject_mergeSystem info t).trans ((e.isKind_iff info.kind).mp he).symm)
    (fun _ _ => Entry.wf_mergeSystem info t) rfl

/-! ### The statement -/

/-- Settles O43: both sorts of posting are one `mergeOrJoin`, which merges at an entry of the posting's subject or appends. -/
theorem postingsMergeOrJoin : Obligations.PostingsMergeOrJoin := by
  unfold Obligations.PostingsMergeOrJoin
  intro bit
  have hbit (k : Occurrence) : bit k = k.bit := by cases k <;> rfl
  have hnotOf {l : List Entry} {h : Handle} (hl : ∀ x ∈ l, x.handle? ≠ some h) : ∀ x ∈ l, x.isOf h = false := fun x hx =>
    Bool.eq_false_iff.mpr fun hof => hl x hx ((x.handle?_eq_some_iff h).mpr ((x.isOf_iff h).mp hof))
  have hnotKind {l : List Entry} {k : SystemKind} (hl : ∀ x ∈ l, ∀ info : SystemInfo, x.content = .system info → info.kind ≠ k) :
      ∀ x ∈ l, x.isKind k = false := fun x hx => Bool.eq_false_iff.mpr fun hkind => by
    obtain ⟨info, hinfo, hk⟩ := (x.system_kind_iff k).mpr ((x.isKind_iff k).mp hkind)
    exact hl x hx info hinfo hk
  simp only [hbit]
  refine ⟨fun before after e h tag tag' pri pri' kinds k t he hothers => ?mergeOccurrence,
    fun q h tag pri k t hnone => mergeOrJoin_of_notMem (hnotOf hnone),
    fun before after e old new t he hkind hothers => ?mergeSystem, fun q new t hnone => mergeOrJoin_of_notMem (hnotKind hnone)⟩
  case mergeOccurrence =>
    rw [postOccurrence_eq, mergeOrJoin_of_mem ((e.isOf_iff h).mpr (by simp [Entry.subject, he])) (hnotOf hothers),
      Entry.mergeOccurrence, he]
    rfl
  case mergeSystem =>
    rw [postSystemEntry_eq, mergeOrJoin_of_mem ((e.isKind_iff new.kind).mpr (by simp [Entry.subject, he, hkind])) (hnotKind hothers)]
    rfl

end Sys2Proof.Machine
end

-- ==== Notifications: FETCH and ATTN ====
section
/-! SUPPORT. Which entry FETCH selects and what it carries of it (R136, R183), and when ATTN is asserted (R140, R141). -/

namespace Sys2Proof.Machine

/-! ### Requests that more power states than RUN admit -/

section
variable {s u : State} {p : PowerState} {c : Instr} {seq : Byte} {a : Admission} {owner : State → Answer} {st : Status}
  {body : List Byte} (hc : ∀ s : State, exec c s = s.request seq a owner) (hready : s.ready p seq)
include hc hready

/-- An accepted request that the power state admits, whose owner leaves `u` outside the port. -/
theorem State.exec_of_admitted (hadmits : s.refusal a = none) (howner : owner s.endFrame = ⟨u.endFrame, st, body⟩) :
    exec c s = .next (u.answering seq st body) := by
  rw [hc, s.request_of_ready hready, s.endFrame.serve_admitted hadmits, howner]
  rfl

/-- An accepted request that the power state turns away. -/
theorem State.exec_of_refused (hrefuses : s.refusal a = some st) : exec c s = .next (s.answering seq st []) := by
  rw [hc, s.request_of_ready hready, s.endFrame.serve_refused hrefuses, State.endFrame_answer]

end

/-! ### FETCH (R136) -/

section
variable {s : State} {before after : List Entry} {e : Entry}

/-- The entry that no older one equals in priority and no other exceeds is the one selected. -/
theorem fetchIndex_eq (hbefore : ∀ x ∈ before, x.priority < e.priority) (hafter : ∀ x ∈ after, x.priority ≤ e.priority) :
    fetchIndex (before ++ e :: after) = some before.length := by
  have holder : before.findIdx? (fun x => (before ++ e :: after).all fun y => decide (y.priority ≤ x.priority)) = none := by
    refine List.findIdx?_eq_none_iff.mpr fun x hx => List.all_eq_false.mpr ⟨e, by simp, ?_⟩
    simpa using hbefore x hx
  have hhighest : ((before ++ e :: after).all fun y => decide (y.priority ≤ e.priority)) = true := by
    simpa using ⟨fun x hx => (hbefore x hx).le, hafter⟩
  simp only [fetchIndex, List.findIdx?_append, holder, List.findIdx?_cons, hhighest, if_true, Option.none_or, Option.map_some,
    Nat.zero_add]

theorem State.fetchEntry_nil (h : s.nq.entries = []) : s.fetchEntry = ⟨s, .queueEmpty, []⟩ := by
  simp only [State.fetchEntry, h, fetchIndex, List.findIdx?_nil, refuse]

theorem State.fetchEntry_eq (h : s.nq.entries = before ++ e :: after) (hbefore : ∀ x ∈ before, x.priority < e.priority)
    (hafter : ∀ x ∈ after, x.priority ≤ e.priority) :
    s.fetchEntry = ⟨{ s with nq := { s.nq with entries := before ++ after } }, .done, e.fetchBody (before ++ after).length⟩ := by
  have hat : (before ++ e :: after)[before.length]? = some e := by simp
  have hleft : (before ++ e :: after).eraseIdx before.length = before ++ after := by
    rw [List.eraseIdx_append_of_length_le le_rfl, Nat.sub_self, List.eraseIdx_cons_zero]
  simp only [State.fetchEntry, h, fetchIndex_eq hbefore hafter, hat, hleft]

end

/-- Settles O44: the selected entry is found at its place, and its bytes are R183's for each content. -/
theorem fetchTakesHighest : Obligations.FetchTakesHighest := by
  intro s p seq hready
  have hadmits : s.refusal .always = none := s.refusal_always (hready.1.2.1 ▸ hready.2.1)
  refine ⟨fun hempty => ?empty, fun before after e hq hbefore hafter => ?selected⟩
  case empty =>
    exact State.exec_of_admitted (fun _ => rfl) hready hadmits (State.fetchEntry_nil (s := s.endFrame) hempty)
  case selected =>
    rw [State.exec_of_admitted (c := .fetch seq) (u := { s with nq := { s.nq with entries := before ++ after } }) (fun _ => rfl)
      hready hadmits (State.fetchEntry_eq (s := s.endFrame) hq hbefore hafter)]
    congr 2
    obtain ⟨content, count, firstAt, lastAt⟩ := e
    cases content with
    | record => rfl
    | system info =>
      cases info with
      | checkpointDone | resetIssued => rfl
      | coldStart reason | checkpointAbandoned reason => cases reason <;> rfl
      | restored _ origin | resumed _ origin => cases origin <;> rfl
      | safeEntered cause => cases cause <;> rfl

/-! ### ATTN (R140, R141) -/

/-- A system entry's priority is no lower than any threshold. -/
theorem Entry.threshold_le_priority_iff (e : Entry) (threshold : Fin 9) :
    threshold.val ≤ e.priority ↔
      (∃ (h : Handle) (tag : BitVec 16) (pri : Fin 8) (kinds : BitVec 6),
        e.content = .record h tag pri kinds ∧ threshold.val ≤ pri.val) ∨ ∃ info : SystemInfo, e.content = .system info := by
  unfold Entry.priority
  cases e.content with
  | record h tag pri kinds => simp
  | system info => simpa using Nat.le_of_lt_succ threshold.isLt

theorem State.attn_iff (s : State) :
    s.attn = true ↔ s.pr.power ≠ .loading ∧ ∃ e ∈ s.nq.entries, s.nq.threshold.val ≤ e.priority := by
  simp [State.attn]

section
variable {s : State} {x : Byte} {t : Fin 9}

theorem State.setThreshold_badField (h : 8 < x.toNat) : s.setThreshold x = ⟨s, .badField, []⟩ := by
  simp only [State.setThreshold, finOf_eq_none h, refuse]

theorem State.setThreshold_eq (h : t.val = x.toNat) :
    s.setThreshold x = ⟨{ s with nq := { s.nq with threshold := t } }, .done,
      [BitVec.ofNat 8 s.nq.threshold.val,
        assertedCode (State.attn { s with nq := { s.nq with threshold := t } })]⟩ := by
  simp only [State.setThreshold, finOf_of_val h]

end

/-- Settles O45: ATTN by the priority of each sort of entry, and SET_ATTN by its admission and then its range. -/
theorem attnAndItsThreshold : Obligations.AttnAndItsThreshold := by
  refine ⟨fun s => by simp only [s.attn_iff, Entry.threshold_le_priority_iff], fun s p seq x hready => ?_⟩
  have hpower : s.pr.power = p := hready.1.2.1
  have hadmits (hp : p = .run ∨ p = .recovered) : s.refusal .runOrRecovered = none := by
    rcases hp with rfl | rfl <;> simp [State.refusal, hpower]
  refine ⟨fun hp hx => ?field, fun hp t ht => ?written, fun hp => ?holding⟩
  case field =>
    exact State.exec_of_admitted (fun _ => rfl) hready (hadmits hp) (State.setThreshold_badField (s := s.endFrame) hx)
  case written =>
    exact State.exec_of_admitted (u := { s with nq := { s.nq with threshold := t } }) (fun _ => rfl) hready (hadmits hp)
      (State.setThreshold_eq (s := s.endFrame) ht)
  case holding =>
    refine State.exec_of_refused (a := .runOrRecovered) (fun _ => rfl) hready ?_
    rcases hp with rfl | rfl <;> simp [State.refusal, hpower]

end Sys2Proof.Machine
end

-- ==== Notifications: what every step keeps of the queue ====
section
/-! SUPPORT. Every operation reaches the queue by postings (R133, R134), by removing entries (R11, R136), or by emptying it, and each of
the three keeps it well formed (R130 to R132). -/

namespace Sys2Proof.Machine

section
variable {s : State}

/-! ### Postings and removals -/

theorem State.queueWf_post (h : s.queueWf) (i : Fin 256) (r : Record) (k : Occurrence) (t : Time) : (s.post i r k t).queueWf :=
  State.queueWf_iff.mpr ((State.queueWf_iff.mp h).postOccurrence _ _ _ k t)

theorem State.queueWf_postSystem (h : s.queueWf) (info : SystemInfo) (t : Time) : (s.postSystem info t).queueWf :=
  State.queueWf_iff.mpr ((State.queueWf_iff.mp h).postSystemEntry info t)

theorem State.queueWf_of_sublist {t : State} (h : s.queueWf) (ht : t.nq.entries.Sublist s.nq.entries) : t.queueWf :=
  State.queueWf_iff.mpr ((State.queueWf_iff.mp h).sublist ht)

theorem State.queueWf_of_nil (h : s.nq.entries = []) : s.queueWf := by simp [State.queueWf, h]

theorem State.queueWf_foldl {f : State → Fin 256 → State} (hf : ∀ (u : State) (i : Fin 256), u.queueWf → (f u i).queueWf)
    (h : s.queueWf) (l : List (Fin 256)) : (l.foldl f s).queueWf :=
  List.foldlRecOn l f h fun u hu i _ => hf u i hu

/-! ### Consequences, expiries and renewals -/

theorem State.queueWf_enterSafe (h : s.queueWf) (c : Cause) (t : Time) : (s.enterSafe c t).queueWf := by
  unfold State.enterSafe
  split
  · exact h
  · exact State.queueWf_postSystem (s := { s with ou := _ }) h _ t

theorem State.queueWf_hostReset (h : s.queueWf) (handle : Handle) (t : Time) : (s.hostReset handle t).queueWf :=
  State.queueWf_postSystem (s := { s with ou := _ }) h _ t

theorem State.queueWf_applyConsequence (h : s.queueWf) (handle : Handle) (c : Consequence) (t : Time) :
    (s.applyConsequence handle c t).queueWf := by
  cases c with
  | notify => exact h
  | safe => exact State.queueWf_enterSafe h _ t
  | safeAndReset => exact State.queueWf_hostReset (State.queueWf_enterSafe h _ t) handle t

theorem State.queueWf_fault (h : s.queueWf) (i : Fin 256) (r : Record) (k : Occurrence) (t : Time) : (s.fault i r k t).queueWf :=
  State.queueWf_applyConsequence (State.queueWf_post h i r k t) _ _ t

theorem State.queueWf_phaseAEnd (h : s.queueWf) (i : Fin 256) (r : Record) (run : Run) (n : Time) :
    (s.phaseAEnd i r run n).queueWf := by
  unfold State.phaseAEnd
  split
  · exact State.queueWf_post h i r .phase n
  · exact h

theorem State.queueWf_cycleEnd (h : s.queueWf) (i : Fin 256) (r : Record) (n : Time) : (s.cycleEnd i r n).queueWf := by
  have hcycle : (if r.notify.cycle then s.post i r .cycle n else s).queueWf := by
    split
    · exact State.queueWf_post h i r .cycle n
    · exact h
  unfold State.cycleEnd
  dsimp only
  split
  · exact hcycle
  · split
    · exact State.queueWf_post hcycle i r .complete n
    · exact hcycle

theorem State.queueWf_expire (h : s.queueWf) (i : Fin 256) (n : Time) : (s.expire i n).queueWf := by
  unfold State.expire
  split
  · exact h
  · next r _ =>
    split
    · split
      case h_1 => exact State.queueWf_post h i r .complete n
      case h_2 | h_5 => exact State.queueWf_phaseAEnd h i r _ n
      case h_3 => exact State.queueWf_cycleEnd h i r n
      case h_4 | h_6 => exact State.queueWf_fault h i r .miss n
    · exact h

theorem State.queueWf_settle (h : s.queueWf) : s.settle.queueWf := by
  unfold State.settle
  split
  · exact State.queueWf_foldl (fun u i hu => State.queueWf_expire hu i _) h _
  · exact h

theorem State.queueWf_renewAt (h : s.queueWf) {i : Fin 256} {r : Record} {t : Time} {res : State × RenewOutcome}
    (hrenew : s.renewAt i r t = some res) : res.1.queueWf := by
  unfold State.renewAt at hrenew
  split at hrenew
  · split at hrenew <;> cases hrenew
    · exact State.queueWf_fault h i r .early t
    · exact h
    · exact State.queueWf_post h i r .recovered t
  · cases hrenew

theorem State.queueWf_edgeAction (h : s.queueWf) (t : Time) (i : Fin 256) : (s.edgeAction t i).queueWf := by
  rcases s.edgeAction_cases t i with hsame | ⟨r', -, hput⟩ | ⟨r, res, hrenew, hres⟩
  · rwa [hsame]
  · rw [hput]; exact h
  · rw [hres]; exact State.queueWf_renewAt h hrenew

theorem State.queueWf_edge (h : s.queueWf) (l : Fin 8) : (s.edge l).queueWf := by
  unfold State.edge
  split
  · exact State.queueWf_foldl (fun u i hu => State.queueWf_edgeAction hu _ i) h _
  all_goals exact h

theorem State.queueWf_accept (h : s.queueWf) (l : Fin 8) (level : Bool) : (s.accept l level).queueWf := by
  unfold State.accept
  dsimp only
  split
  · exact State.queueWf_edge (s := s.putLine l _) h l
  · exact h

/-! ### Entering HOLD and RUN, and reconciliation -/

theorem State.queueWf_enterHold (h : s.queueWf) : s.enterHold.queueWf := by
  unfold State.enterHold
  dsimp only
  split
  · exact State.queueWf_postSystem (s := { s with td := _, pr := _ }) h _ _
  · exact h

theorem State.queueWf_enterRun (h : s.queueWf) : s.enterRun.queueWf := by
  unfold State.enterRun
  dsimp only
  split
  · exact State.queueWf_enterHold (s := { s with td := _, pr := _ }) h
  · exact h

theorem State.queueWf_replayDue (h : s.queueWf) (i : Fin 256) (newNow : Time) (fuel : Nat) :
    (s.replayDue i newNow fuel).queueWf := by
  induction fuel generalizing s with
  | zero => exact h
  | succ fuel ih =>
    rcases s.replayDue_succ_cases i newNow fuel with ⟨due, -, -, hturn⟩ | ⟨-, hover⟩
    · rw [hturn]; exact ih (State.queueWf_expire h i due)
    · rwa [hover]

theorem State.queueWf_treat (hs : s.queueWf) (frozen : Time) (h : Nat) (unknown : Bool) (i : Fin 256) :
    (s.treat frozen h unknown i).queueWf := by
  unfold State.treat
  split
  · exact hs
  · dsimp only
    split
    · exact hs
    · exact State.queueWf_replayDue (s := s.putRecord i _) hs i _ _

theorem State.queueWf_endReconciliation (hs : s.queueWf) (origin : ResumeOrigin) (h : Nat) (newNow : Time) (visited : Nat) :
    (s.endReconciliation origin h newNow visited).queueWf := by
  have hposted := State.queueWf_postSystem (s := { s with td := { s.td with now := newNow } }) hs
    (.resumed h origin s.lu.ignored visited) newNow
  exact State.queueWf_enterRun (s := { State.postSystem _ _ _ with lu := _ }) hposted

theorem State.queueWf_reconcile (hs : s.queueWf) (origin : ResumeOrigin) (h : Nat) (unknown : Bool) :
    (s.reconcile origin h unknown).queueWf :=
  State.queueWf_endReconciliation (State.queueWf_foldl (fun _ i hu => State.queueWf_treat hu _ h unknown i) hs _) origin h _ _

theorem State.queueWf_brownout (h : s.queueWf) : s.brownout.queueWf := State.queueWf_reconcile h .brownout _ false

/-! ### The owners of requests that write the queue -/

/-- R20: a new period of the current phase that has already elapsed takes the expiry. -/
theorem State.queueWf_retime (h : s.queueWf) (i : Fin 256) (r : Record) (v : Pending) : (s.retime i r v).1.queueWf := by
  unfold State.retime
  split
  · split
    · exact h
    · split
      · exact h
      · exact State.queueWf_expire (s := s.putRecord i r) h i _
  · exact h

theorem State.queueWf_modify (hs : s.queueWf) (h : Handle) (b : ModifyBody) : (s.modify h b).state.queueWf := by
  have happly (r : Record) (m : ModifyItems) : (s.applyModify h.slot r m).1.queueWf := by
    unfold State.applyModify
    split
    · exact hs
    · exact State.queueWf_retime hs _ _ _
  unfold State.modify
  split
  · exact hs
  · split
    · exact hs
    · split
      · exact hs
      · split
        · exact hs
        · exact happly _ _

theorem State.queueWf_renew (hs : s.queueWf) (h : Handle) : (s.renew h).state.queueWf := by
  unfold State.renew
  split
  · exact hs
  · split
    · exact hs
    · split
      · exact hs
      · next hrenew => exact State.queueWf_renewAt hs hrenew

theorem State.queueWf_retire (hs : s.queueWf) (h : Handle) : (s.retire h).state.queueWf := by
  unfold State.retire
  split
  · exact hs
  · split
    · exact hs
    · exact State.queueWf_of_sublist hs List.filter_sublist

theorem State.queueWf_fetchEntry (h : s.queueWf) : s.fetchEntry.state.queueWf := by
  unfold State.fetchEntry
  split
  · exact h
  · split
    · exact h
    · exact State.queueWf_of_sublist h (List.eraseIdx_sublist _ _)

theorem State.queueWf_clearPart : s.clearPart.state.queueWf := by
  unfold State.clearPart
  dsimp only
  split
  · exact State.queueWf_postSystem (State.queueWf_of_nil rfl) _ _
  · exact State.queueWf_of_nil rfl

theorem State.queueWf_discardImage (h : s.queueWf) : s.discardImage.state.queueWf :=
  State.queueWf_enterRun (State.queueWf_postSystem (s := { s with slots := _, lu := _, ou := _, pr := _ }) h _ _)

theorem State.queueWf_resumeRequest (h : s.queueWf) (outage : BitVec 32) : (s.resumeRequest outage).state.queueWf := by
  unfold State.resumeRequest
  split
  · exact State.queueWf_reconcile h .resume 0 true
  · split
    · exact h
    · exact State.queueWf_reconcile h .resume _ false

/-! ### The end of a frame -/

/-- The tests on a frame leave all but the port to what a good frame does (R173). -/
theorem State.queueWf_judge {seq : Byte} {good : State → State} (h : s.queueWf)
    (hgood : ∀ u : State, u.queueWf → (good u).queueWf) : (s.judge seq good).queueWf := by
  unfold State.judge
  split
  · exact h
  · split
    · exact h
    · exact hgood s.endFrame h

theorem State.queueWf_replay (h : s.queueWf) : s.replay.queueWf := by
  unfold State.replay
  split <;> exact h

theorem State.queueWf_frameServed {seq : Byte} {a : Admission} {owner : State → Answer} (h : s.queueWf)
    (howner : ∀ u : State, u.queueWf → (owner u).state.queueWf) : (s.frameServed seq a owner).queueWf := by
  refine State.queueWf_judge h fun u hu => ?_
  split
  · exact State.queueWf_replay hu
  · cases hr : u.refusal a with
    | some st => rw [u.serve_refused hr]; exact hu
    | none => rw [u.serve_admitted hr]; exact howner u hu

/-! ### LOADING -/

theorem State.queueWf_restore (h : s.queueWf) (i : Image) (levels : BitVec 8) : (s.restore i levels).queueWf :=
  State.queueWf_postSystem (s := { s with slots := _, td := _, lu := _, ou := _, nq := { s.nq with threshold := _ }, pr := _ }) h _ _

theorem State.queueWf_coldStart (h : s.queueWf) (levels : BitVec 8) : (s.coldStart levels).queueWf :=
  State.queueWf_enterRun
    (State.queueWf_postSystem (s := { s with slots := _, td := _, lu := _, ou := _, nq := { s.nq with threshold := _ } }) h _ _)

end

/-! ### Commands -/

/-- A command that leads from a part with a well-formed queue to one. -/
def KeepsQueue (run : State → Host.Outcome State Fault Refusal) : Prop :=
  ∀ s t : State, s.queueWf → run s = .next t → t.queueWf

/-- The expiries that precede an event only post. -/
theorem keepsQueue_event {f : State → State} (hf : ∀ u : State, u.queueWf → (f u).queueWf) : KeepsQueue fun s => s.event f := by
  intro s t hq h
  cases h
  split
  · exact hf _ (State.queueWf_settle hq)
  · exact hq

theorem keepsQueue_request {seq : Byte} {a : Admission} {owner : State → Answer}
    (howner : ∀ u : State, u.queueWf → (owner u).state.queueWf) : KeepsQueue fun s => s.request seq a owner :=
  keepsQueue_event fun _ hu => State.queueWf_frameServed hu howner

theorem keepsQueue_powerOn (pwarn rstn : Bool) : KeepsQueue (execPowerOn pwarn rstn) := by
  rintro s t - h
  cases h
  exact State.queueWf_of_nil rfl

theorem keepsQueue_supplyLost : KeepsQueue execSupplyLost := keepsQueue_event fun _ hu => hu

theorem keepsQueue_rstnReleased : KeepsQueue execRstnReleased := keepsQueue_event fun _ hu => hu

theorem keepsQueue_hrstPulseEnd : KeepsQueue execHrstPulseEnd := keepsQueue_event fun _ hu => hu

theorem keepsQueue_rstnAsserted : KeepsQueue execRstnAsserted :=
  keepsQueue_event fun u _ => State.queueWf_of_nil (s := State.beginLoading { u with pr := _ }) rfl

theorem keepsQueue_storeContentsLost : KeepsQueue execStoreContentsLost := by
  intro s t hq h
  cases h
  split <;> exact hq

theorem keepsQueue_loadingComplete (levels : BitVec 8) : KeepsQueue (execLoadingComplete levels) :=
  keepsQueue_event fun u hu => by
    split
    · dsimp only
      split
      · exact State.queueWf_restore (s := State.holdResponse { u with pr := _ } _) hu _ levels
      · refine State.queueWf_coldStart ?_ levels
        exact hu
    · exact hu

theorem keepsQueue_pwarnAsserted : KeepsQueue execPwarnAsserted :=
  keepsQueue_event fun u hu => by
    dsimp only
    split
    · exact State.queueWf_enterHold (s := { u with pr := _ }) hu
    · exact hu

theorem keepsQueue_pwarnWithdrawn : KeepsQueue execPwarnWithdrawn :=
  keepsQueue_event fun u hu => by
    dsimp only
    split
    · exact State.queueWf_brownout (s := { u with pr := _ }) hu
    · exact hu

theorem keepsQueue_holdSaveComplete : KeepsQueue execHoldSaveComplete :=
  keepsQueue_event fun u hu => by
    split
    · exact hu
    · dsimp only
      split
      · exact hu
      · exact State.queueWf_brownout (s := { u with pr := _ }) hu

theorem keepsQueue_checkpointComplete : KeepsQueue execCheckpointComplete :=
  keepsQueue_event fun u hu => by
    split
    · exact hu
    · exact State.queueWf_postSystem (s := { u with pr := _ }) hu _ _

theorem keepsQueue_tick : KeepsQueue execTick :=
  keepsQueue_event fun u hu => by
    split <;> exact hu

theorem keepsQueue_expiry : KeepsQueue execExpiry := by
  intro s t hq h
  cases h
  split
  · split
    · exact State.queueWf_expire hq _ _
    · exact hq
  · exact hq

theorem keepsQueue_candidateAccepted (l : Fin 8) : KeepsQueue (execCandidateAccepted l) :=
  keepsQueue_event fun u hu => by
    split
    · exact hu
    · exact hu
    · exact State.queueWf_accept hu l _

theorem keepsQueue_sampledLevelChange (l : Fin 8) (level : Bool) : KeepsQueue (execSampledLevelChange l level) :=
  keepsQueue_event fun u hu => by
    dsimp only
    split
    · exact hu
    · split
      · exact hu
      · split
        · exact State.queueWf_accept hu l level
        · split <;> exact hu

theorem keepsQueue_csnFallingEdge (soon : Bool) : KeepsQueue (execCsnFallingEdge soon) :=
  keepsQueue_event fun u hu => by
    split <;> exact hu

theorem keepsQueue_ignoredFrame : KeepsQueue execIgnoredFrame :=
  keepsQueue_event fun u hu => by
    split <;> exact hu

theorem keepsQueue_starting (bytes : List Byte) : KeepsQueue (execStarting bytes) :=
  keepsQueue_event fun u hu => by
    split
    · exact hu
    · split
      · exact State.queueWf_judge hu fun _ hv => hv
      · exact hu

theorem keepsQueue_frameError (bytes : List Byte) : KeepsQueue (execFrameError bytes) :=
  keepsQueue_event fun u hu => by
    split
    · exact State.queueWf_judge hu fun _ hv => hv
    · exact hu

theorem keepsQueue_duplicate (seq code : Byte) (body : List Byte) : KeepsQueue (execDuplicate seq code body) :=
  keepsQueue_event fun u hu => by
    split
    · exact State.queueWf_judge hu fun _ hv => State.queueWf_replay hv
    · exact hu

theorem keepsQueue_badRequest (seq code : Byte) (body : List Byte) : KeepsQueue (execBadRequest seq code body) :=
  keepsQueue_event fun u hu => by
    split
    · exact hu
    · refine State.queueWf_judge hu fun v hv => ?_
      split
      · exact State.queueWf_replay hv
      · exact hv

/-- Every command keeps the queue well formed. -/
theorem keepsQueue_exec (c : Instr) : KeepsQueue (exec c) := by
  cases c with
  | powerOn pwarn rstn => exact keepsQueue_powerOn pwarn rstn
  | storeContentsLost => exact keepsQueue_storeContentsLost
  | supplyLost => exact keepsQueue_supplyLost
  | rstnAsserted => exact keepsQueue_rstnAsserted
  | rstnReleased => exact keepsQueue_rstnReleased
  | loadingComplete levels => exact keepsQueue_loadingComplete levels
  | pwarnAsserted => exact keepsQueue_pwarnAsserted
  | pwarnWithdrawn => exact keepsQueue_pwarnWithdrawn
  | holdSaveComplete => exact keepsQueue_holdSaveComplete
  | checkpointComplete => exact keepsQueue_checkpointComplete
  | tick => exact keepsQueue_tick
  | expiry => exact keepsQueue_expiry
  | candidateAccepted l => exact keepsQueue_candidateAccepted l
  | sampledLevelChange l level => exact keepsQueue_sampledLevelChange l level
  | csnFallingEdge soon => exact keepsQueue_csnFallingEdge soon
  | hrstPulseEnd => exact keepsQueue_hrstPulseEnd
  | emptyFrame => exact keepsQueue_event fun _ hu => hu
  | ignoredFrame => exact keepsQueue_ignoredFrame
  | starting bytes => exact keepsQueue_starting bytes
  | frameError bytes => exact keepsQueue_frameError bytes
  | duplicate seq code body => exact keepsQueue_duplicate seq code body
  | badRequest seq code body => exact keepsQueue_badRequest seq code body
  | clear seq => exact keepsQueue_request fun _ _ => State.queueWf_clearPart
  | retire seq h => exact keepsQueue_request fun _ hv => State.queueWf_retire hv h
  | modify seq h m => exact keepsQueue_request fun _ hv => State.queueWf_modify hv h m
  | renew seq h => exact keepsQueue_request fun _ hv => State.queueWf_renew hv h
  | safe seq => exact keepsQueue_request fun _ hv => State.queueWf_enterSafe hv _ _
  | fetch seq => exact keepsQueue_request fun _ hv => State.queueWf_fetchEntry hv
  | resume seq outage => exact keepsQueue_request fun _ hv => State.queueWf_resumeRequest hv outage
  | discard seq => exact keepsQueue_request fun _ hv => State.queueWf_discardImage hv
  -- The owners of the other requests have no branch that writes the queue's entries.
  | nop | status | define | query | find | setTick | start | stop | restart | pause | continueRecord | join | leave | groupStart
  | groupStop | groupPause | groupContinue | setLine | bind | unbind | route | release | setAttn | checkpoint =>
    refine keepsQueue_request fun v hv => ?_
    dsimp only [State.define, State.query, State.find, State.setTick, State.startRecord, State.stopRecord, State.restartRecord,
      State.pauseRecord, State.continueRecord, State.joinGroup, State.leaveGroup, State.startGroup, State.stopGroup,
      State.pauseGroup, State.continueGroup, State.setLine, State.bindRecord, State.unbindRecord, State.routeOutput,
      State.releaseSafe, State.setThreshold, State.takeCheckpoint]
    repeat' split
    all_goals exact hv

/-- The idle step is no posting. -/
theorem State.queueWf_idle {s : State} (h : s.queueWf) : s.idle.queueWf := by
  unfold State.idle
  repeat' split
  all_goals exact h

/-- Settles O58: a step runs a command, each of which only posts to the queue, removes entries of it or empties it, or idles. -/
theorem queueKept : Obligations.QueueKept := by
  intro s t hq h
  unfold step at h
  split at h
  · cases h
    exact State.queueWf_idle hq
  · next c rest _ => exact keepsQueue_exec c { s with pending := rest } t hq h

end Sys2Proof.Machine
end

-- ==== Retention: writes to the banks ====
section
/-! SUPPORT. The target of a write (R158 step 1), what erasing a marker and completing a write make of each bank (R158), and what it
means for the power and retention unit that its banks are sound (R156, R159). -/

namespace Sys2Proof.Machine

/-! ### The two banks -/

@[simp] theorem otherBank_otherBank (b : Fin 2) : otherBank (otherBank b) = b := by decide +revert

theorem otherBank_ne (b : Fin 2) : otherBank b ≠ b := by decide +revert

theorem eq_otherBank_of_ne {b c : Fin 2} (h : c ≠ b) : c = otherBank b := by decide +revert

section
variable {α : Type} (v : Vector α 2) (x : α) {b c : Fin 2}

theorem bank_set_self (b : Fin 2) : (v.set b x)[b] = x := by simp

theorem bank_set_of_ne (h : c ≠ b) : (v.set b x)[c] = v[c] := by
  have hval : b.val ≠ c.val := fun e => h (Fin.ext e.symm)
  simp [Vector.getElem_set_ne, hval]

end

section
variable (p : PowerUnit) (b : Fin 2) {c : Fin 2}

/-! ### Erasing a marker (R158 step 2) -/

theorem PowerUnit.store_invalidate : (p.invalidate b).store[b] = { p.store[b] with marker := false } :=
  bank_set_self _ _ b

theorem PowerUnit.banks_invalidate : (p.invalidate b).banks[b] = none := bank_set_self _ _ b

theorem PowerUnit.store_invalidate_of_ne (h : c ≠ b) : (p.invalidate b).store[c] = p.store[c] := bank_set_of_ne _ _ h

theorem PowerUnit.banks_invalidate_of_ne (h : c ≠ b) : (p.invalidate b).banks[c] = p.banks[c] := bank_set_of_ne _ _ h

theorem PowerUnit.judge_invalidate : ((p.invalidate b).store[b]).judge = none := by
  rw [p.store_invalidate]
  exact Bank.judge_unmarked _

/-! ### The completion of a write (R158 step 4) -/

/-- The target's marker is written over the image, before anything is done at the wrap of generations. -/
def PowerUnit.marked (img : Image) : PowerUnit :=
  { p with
    store := p.store.set b ⟨true, some ⟨img, imageCrc img⟩⟩
    banks := p.banks.set b (some ⟨img.generation, img.origin⟩) }

/-- The other bank is a valid one of the greatest generation. -/
def PowerUnit.Wraps (c : Fin 2) : Prop := ∃ x, p.banks[c] = some x ∧ x.generation = Config.maxGeneration

theorem PowerUnit.written_of_wraps {img : Image} (h : p.Wraps (otherBank b)) :
    p.written b img = (p.marked b img).invalidate (otherBank b) := by
  obtain ⟨x, hx, hgen⟩ := h
  simp only [PowerUnit.written, hx, hgen, if_true]
  rfl

theorem PowerUnit.written_of_not_wraps {img : Image} (h : ¬ p.Wraps (otherBank b)) : p.written b img = p.marked b img := by
  unfold PowerUnit.written
  split
  next x hx => exact if_neg fun hgen => h ⟨x, hx, hgen⟩
  next => rfl

/-- A completed write changes the store and what is held of it, and nothing else. -/
theorem PowerUnit.written_eq (img : Image) :
    p.written b img = { p with store := (p.written b img).store, banks := (p.written b img).banks } := by
  by_cases h : p.Wraps (otherBank b)
  · rw [p.written_of_wraps b h]; rfl
  · rw [p.written_of_not_wraps b h]; rfl

theorem PowerUnit.save_written (img : Image) : (p.written b img).save = p.save := by rw [p.written_eq b img]

theorem PowerUnit.checkpoint_written (img : Image) : (p.written b img).checkpoint = p.checkpoint := by rw [p.written_eq b img]

theorem PowerUnit.store_marked (img : Image) : (p.marked b img).store[b] = ⟨true, some ⟨img, imageCrc img⟩⟩ := bank_set_self _ _ b

theorem PowerUnit.banks_marked (img : Image) : (p.marked b img).banks[b] = some ⟨img.generation, img.origin⟩ :=
  bank_set_self _ _ b

theorem PowerUnit.store_marked_of_ne (img : Image) (h : c ≠ b) : (p.marked b img).store[c] = p.store[c] := bank_set_of_ne _ _ h

theorem PowerUnit.banks_marked_of_ne (img : Image) (h : c ≠ b) : (p.marked b img).banks[c] = p.banks[c] := bank_set_of_ne _ _ h

theorem PowerUnit.bankWritten_written (img : Image) : bankWritten p (p.written b img) b img := by
  have hne := otherBank_ne b
  unfold bankWritten
  by_cases h : p.Wraps (otherBank b)
  · rw [p.written_of_wraps b h]
    refine ⟨?_, ?_, fun c hc => ?_⟩
    · rw [PowerUnit.store_invalidate_of_ne _ _ hne.symm, p.store_marked]
    · rw [PowerUnit.banks_invalidate_of_ne _ _ hne.symm, p.banks_marked]
    · cases eq_otherBank_of_ne hc
      obtain ⟨x, hx, hgen⟩ := h
      refine ⟨fun _ => ⟨?_, PowerUnit.banks_invalidate _ _⟩, fun hnot => absurd hgen (hnot x hx)⟩
      rw [PowerUnit.store_invalidate, p.store_marked_of_ne b img hc]
  · rw [p.written_of_not_wraps b h]
    refine ⟨p.store_marked b img, p.banks_marked b img, fun c hc => ?_⟩
    cases eq_otherBank_of_ne hc
    exact ⟨fun hwraps => absurd hwraps h, fun _ => ⟨p.store_marked_of_ne b img hc, p.banks_marked_of_ne b img hc⟩⟩

/-! ### The newest valid image and the target (R156, R158 step 1) -/

variable {p b}

theorem PowerUnit.newest_eq_none (h0 : p.banks[(0 : Fin 2)] = none) (h1 : p.banks[(1 : Fin 2)] = none) : p.newest = none := by
  have hbank : newestBank p.banks = none := by
    unfold newestBank
    rw [show p.banks[0] = none from h0, show p.banks[1] = none from h1]
  simp only [PowerUnit.newest, hbank, Option.bind_none]

/-- A valid bank that the other does not outdo holds the newest valid image. -/
theorem PowerUnit.newest_eq {x : BankInfo} (hx : p.banks[c] = some x)
    (hother : ∀ y, p.banks[otherBank c] = some y → y.generation < x.generation) : p.newest = some (c, x) := by
  have hbank : newestBank p.banks = some c := by
    unfold newestBank
    match c, hx, hother with
    | 0, hx, hother =>
      rw [show p.banks[0] = some x from hx]
      cases hy : p.banks[1] with
      | none => rfl
      | some y => exact if_neg (BitVec.not_lt.mpr (BitVec.le_of_lt (hother y hy)))
    | 1, hx, hother =>
      rw [show p.banks[1] = some x from hx]
      cases hy : p.banks[0] with
      | none => rfl
      | some y => exact if_pos (hother y hy)
  simp only [PowerUnit.newest, hbank, Option.bind_some, hx, Option.map_some]

/-- The rules' target of a write is the one that the part takes. -/
theorem PowerUnit.target_of_isTarget {g : BitVec 32} (h : p.isTarget b g) : p.target = (b, g) := by
  unfold PowerUnit.target
  rcases h with ⟨h0, h1, rfl, rfl⟩ | ⟨c, x, hcb, hx, hother, rfl⟩
  · rw [PowerUnit.newest_eq_none h0 h1]
  · cases eq_otherBank_of_ne hcb.symm
    rw [PowerUnit.newest_eq hx hother]
    rfl

/-- Where a bank is valid, one of the valid banks is the newest. -/
theorem newestBank_of_valid {banks : Vector (Option BankInfo) 2} {b : Fin 2} (hb : banks[b] ≠ none) :
    ∃ c x, newestBank banks = some c ∧ banks[c] = some x := by
  unfold newestBank
  split
  next h0 h1 =>
    exfalso
    match b, hb with
    | 0, hb => exact hb h0
    | 1, hb => exact hb h1
  next x h0 _ => exact ⟨0, x, rfl, h0⟩
  next y _ h1 => exact ⟨1, y, rfl, h1⟩
  next x y h0 h1 =>
    split
    · exact ⟨1, y, rfl, h1⟩
    · exact ⟨0, x, rfl, h0⟩

theorem PowerUnit.banks_of_newest_eq_none (h : p.newest = none) (b : Fin 2) : p.banks[b] = none := by
  by_contra hb
  obtain ⟨c, x, hnewest, hx⟩ := newestBank_of_valid hb
  rw [PowerUnit.newest, hnewest, Option.bind_some, hx] at h
  cases h

theorem PowerUnit.banks_of_newest {x : BankInfo} (h : p.newest = some (c, x)) : p.banks[c] = some x := by
  unfold PowerUnit.newest at h
  obtain ⟨d, -, hd⟩ := Option.bind_eq_some_iff.mp h
  obtain ⟨y, hy, heq⟩ := Option.map_eq_some_iff.mp hd
  cases heq
  exact hy

end
end Sys2Proof.Machine
end

-- ==== Retention: what every step keeps of the banks ====
section
/-! SUPPORT. What makes the banks and the writes in flight sound (R156, R158, R159), that erasing a marker, choosing a target and
completing a write keep them so, and that every command does. -/

namespace Sys2Proof.Machine

/-! ### Sound banks -/

/-- The two banks never carry the same generation, and what is held of each is what the store holds (R147, R156). -/
structure BanksAgree (store : Vector Bank 2) (banks : Vector (Option BankInfo) 2) : Prop where
  distinct : store[(0 : Fin 2)].generation? = none ∨ store[(0 : Fin 2)].generation? ≠ store[(1 : Fin 2)].generation?
  held : ∀ b : Fin 2, banks[b] = store[b].judge

/-- The banks agree and every write in flight may complete (R158, R159). -/
structure PowerUnit.Sound (p : PowerUnit) : Prop where
  agree : BanksAgree p.store p.banks
  checkpoint : ∀ c, p.checkpoint = some c → c.snapshot.generation = c.generation ∧ p.writable c.bank c.generation
  save : ∀ f, p.save = some f → p.writable f.bank f.generation

theorem Bank.generation?_of_judge {b : Bank} (h : b.judge = none) : b.generation? = none := by
  rw [Bank.generation?, h, Option.map_none]

section
variable {p : PowerUnit} {b : Fin 2} {g : BitVec 32} {img : Image}

theorem PowerUnit.generation?_invalidate (p : PowerUnit) (b : Fin 2) : ((p.invalidate b).store[b]).generation? = none :=
  Bank.generation?_of_judge (p.judge_invalidate b)

/-- Two banks of which one is not valid, or carries another generation than the other, never carry the same one. -/
theorem PowerUnit.distinct_of (b : Fin 2)
    (h : p.store[b].generation? = none ∨ p.store[b].generation? ≠ p.store[otherBank b].generation?) :
    p.store[(0 : Fin 2)].generation? = none ∨
      p.store[(0 : Fin 2)].generation? ≠ p.store[(1 : Fin 2)].generation? := by
  match b, h with
  | 0, h => exact h
  | 1, .inr h => exact .inr (Ne.symm h)
  | 1, .inl h =>
    rw [h]
    exact em _

/-! ### Erasing a marker (R158 step 2) -/

theorem BanksAgree.invalidate (h : BanksAgree p.store p.banks) (b : Fin 2) :
    BanksAgree (p.invalidate b).store (p.invalidate b).banks where
  distinct := PowerUnit.distinct_of b (.inl (p.generation?_invalidate b))
  held c := by
    by_cases hc : c = b
    · rw [hc, p.banks_invalidate, p.judge_invalidate]
    · rw [p.banks_invalidate_of_ne b hc, p.store_invalidate_of_ne b hc, h.held]

/-- A bank that may be written may be written when a marker has been erased, be it the other bank's. -/
theorem PowerUnit.writable_invalidate (h : p.writable b g) (c : Fin 2) : (p.invalidate c).writable b g := by
  obtain ⟨hmarker, hbank, hother⟩ := h
  by_cases hc : b = c
  · subst hc
    exact ⟨congrArg Bank.marker (p.store_invalidate b), p.banks_invalidate b, by
      rwa [p.store_invalidate_of_ne b (otherBank_ne b)]⟩
  · rw [eq_otherBank_of_ne (Ne.symm hc)]
    refine ⟨?_, ?_, ?_⟩
    · rwa [p.store_invalidate_of_ne _ (otherBank_ne b).symm]
    · rwa [p.banks_invalidate_of_ne _ (otherBank_ne b).symm]
    · rw [p.generation?_invalidate]
      exact nofun

theorem PowerUnit.Sound.invalidate (h : p.Sound) (b : Fin 2) : (p.invalidate b).Sound where
  agree := h.agree.invalidate b
  checkpoint c hc := ⟨(h.checkpoint c hc).1, PowerUnit.writable_invalidate (h.checkpoint c hc).2 b⟩
  save f hf := PowerUnit.writable_invalidate (h.save f hf) b

/-! ### Choosing a target (R158 step 1) -/

/-- A generation's successor is another one, past the wrap too. -/
theorem succ_generation_ne (g : BitVec 32) : (if g = Config.maxGeneration then 1 else g + 1) ≠ g := by
  unfold Config.maxGeneration
  split
  next h => rw [h]; decide
  next => bv_omega

theorem PowerUnit.target_eq {c : Fin 2} {x : BankInfo} (h : p.newest = some (c, x)) :
    p.target = (otherBank c, if x.generation = Config.maxGeneration then 1 else x.generation + 1) := by
  simp only [PowerUnit.target, h]

/-- The generation that a write takes is not that of the bank it spares. -/
theorem PowerUnit.generation?_ne_target (h : BanksAgree p.store p.banks) (ht : p.target = (b, g)) :
    p.store[otherBank b].generation? ≠ some g := by
  cases hnewest : p.newest with
  | none =>
    rw [Bank.generation?_of_judge ((h.held _).symm.trans (PowerUnit.banks_of_newest_eq_none hnewest _))]
    exact nofun
  | some newest =>
    cases (PowerUnit.target_eq hnewest).symm.trans ht
    simp only [otherBank_otherBank, Bank.generation?, ← h.held, PowerUnit.banks_of_newest hnewest]
    exact fun e => succ_generation_ne newest.2.generation (Option.some.inj e).symm

/-- A write may be made into its target once the target's marker is erased. -/
theorem PowerUnit.writable_target (h : BanksAgree p.store p.banks) :
    (p.invalidate p.target.1).writable p.target.1 p.target.2 := by
  refine ⟨congrArg Bank.marker (p.store_invalidate _), p.banks_invalidate _, ?_⟩
  rw [p.store_invalidate_of_ne _ (otherBank_ne _)]
  exact PowerUnit.generation?_ne_target h rfl

/-! ### The completion of a write (R158 step 4) -/

theorem PowerUnit.generation?_marked (p : PowerUnit) (b : Fin 2) (img : Image) :
    ((p.marked b img).store[b]).generation? = some img.generation := by
  rw [p.store_marked, Bank.generation?, Bank.judge_written]
  rfl

theorem BanksAgree.marked (h : BanksAgree p.store p.banks) (hw : p.writable b img.generation) :
    BanksAgree (p.marked b img).store (p.marked b img).banks where
  distinct := PowerUnit.distinct_of b (.inr (by
    rw [p.generation?_marked, p.store_marked_of_ne b img (otherBank_ne b)]
    exact hw.2.2.symm))
  held c := by
    by_cases hc : c = b
    · rw [hc, p.banks_marked, p.store_marked, Bank.judge_written]
    · rw [p.banks_marked_of_ne b img hc, p.store_marked_of_ne b img hc, h.held]

/-- At the wrap of generations the other bank's marker is erased, and otherwise the other bank is left. -/
theorem BanksAgree.written (h : BanksAgree p.store p.banks) (hw : p.writable b img.generation) :
    BanksAgree (p.written b img).store (p.written b img).banks := by
  by_cases hwraps : p.Wraps (otherBank b)
  · rw [p.written_of_wraps b hwraps]
    exact (h.marked hw).invalidate _
  · rw [p.written_of_not_wraps b hwraps]
    exact h.marked hw

/-- A hold save completes with no checkpoint in flight beside it. -/
theorem PowerUnit.Sound.saved (h : p.Sound) (hcheckpoint : p.checkpoint = none) (hw : p.writable b img.generation) :
    PowerUnit.Sound { p.written b img with save := none } := by
  refine ⟨h.agree.written hw, fun c hc => ?_, nofun⟩
  have hc' : (p.written b img).checkpoint = some c := hc
  rw [p.checkpoint_written, hcheckpoint] at hc'
  cases hc'

/-- A checkpoint completes with no hold save in flight beside it. -/
theorem PowerUnit.Sound.checkpointed (h : p.Sound) (hsave : p.save = none) (hw : p.writable b img.generation) :
    PowerUnit.Sound { p.written b img with checkpoint := none } := by
  refine ⟨h.agree.written hw, nofun, fun f hf => ?_⟩
  have hf' : (p.written b img).save = some f := hf
  rw [p.save_written, hsave] at hf'
  cases hf'

end

/-! ### The part as an event meets it -/

section
variable {s u : State}

theorem State.banksWf.sound (h : s.banksWf) (hw : s.supply = true) (hp : s.pr.power ≠ .loading) : s.pr.Sound := by
  obtain ⟨hdistinct, hheld, hcheckpoint, hsave⟩ := h
  exact ⟨⟨hdistinct, hheld hw hp⟩, fun c hc => (hcheckpoint c hc).2.2, fun f hf => (hsave f hf).2.2⟩

theorem State.banksWf_of_sound (h : s.pr.Sound) (hw : s.supply = true) (hp : s.pr.power ≠ .loading) : s.banksWf :=
  ⟨h.agree.distinct, fun _ _ => h.agree.held, fun c hc => ⟨hw, hp, h.checkpoint c hc⟩, fun f hf => ⟨hw, hp, h.save f hf⟩⟩

/-- Only the power and retention unit and the supply matter. -/
theorem State.banksWf_of_pr {t : State} (h : s.banksWf) (hpr : t.pr = s.pr) (hw : t.supply = s.supply) : t.banksWf := by
  simpa only [State.banksWf, hpr, hw] using h

theorem State.Keeps.banksWf {t : State} (hkeep : s.Keeps t) (h : s.banksWf) : t.banksWf :=
  State.banksWf_of_pr h hkeep.pr hkeep.supply

/-- What holds of the power and retention unit at the beginning of an event at a powered part: its banks are sound, and its power state
says which write may be in flight. -/
structure State.Retains (s : State) : Prop where
  banks : s.banksWf
  powered : s.supply = true
  checkpoint : s.pr.checkpoint.isSome = true → s.pr.power = .run
  save : s.pr.save.isSome = true → s.pr.power = .hold

theorem State.Retains.sound (h : u.Retains) (hp : u.pr.power ≠ .loading) : u.pr.Sound := h.banks.sound h.powered hp

/-- The port is no part of it. -/
theorem State.Retains.withPort (h : u.Retains) (hp : HostPort) : State.Retains { u with hp := hp } :=
  ⟨h.banks, h.powered, h.checkpoint, h.save⟩

theorem State.Retains.checkpoint_eq_none (h : u.Retains) (hp : u.pr.power ≠ .run) : u.pr.checkpoint = none := by
  rw [← Option.not_isSome_iff_eq_none]
  exact fun hsome => hp (h.checkpoint hsome)

theorem State.Retains.save_eq_none (h : u.Retains) (hp : u.pr.power ≠ .hold) : u.pr.save = none := by
  rw [← Option.not_isSome_iff_eq_none]
  exact fun hsome => hp (h.save hsome)

theorem State.retains_settle (hm : s.modesWf) (hb : s.banksWf) (hw : s.supply = true) : s.settle.Retains := by
  have hkeep := s.keeps_settle
  exact ⟨hkeep.banksWf hb, hkeep.supply.trans hw, by rw [hkeep.pr]; exact hm.1, by rw [hkeep.pr]; exact State.modesWf.save hm⟩

/-! ### Entering HOLD and RUN, and reconciliation -/

/-- HOLD inherits the target of a checkpoint in flight, or takes a target of its own (R151). -/
theorem State.banksWf_enterHold (h : s.pr.Sound) (hw : s.supply = true) : s.enterHold.banksWf := by
  unfold State.enterHold
  dsimp only
  split
  next c hc =>
    refine State.banksWf_of_sound ⟨h.agree, nofun, fun f hf => ?_⟩ hw nofun
    cases hf
    exact (h.checkpoint c hc).2
  next hnone =>
    have hinvalid := h.invalidate s.pr.target.1
    refine State.banksWf_of_sound ⟨hinvalid.agree, hinvalid.checkpoint, fun f hf => ?_⟩ hw nofun
    cases hf
    exact PowerUnit.writable_target h.agree

theorem State.banksWf_enterRun (h : s.pr.Sound) (hw : s.supply = true) : s.enterRun.banksWf := by
  have hrun : PowerUnit.Sound { s.pr with power := .run } := ⟨h.agree, h.checkpoint, h.save⟩
  unfold State.enterRun
  dsimp only
  split
  · exact State.banksWf_enterHold hrun hw
  · exact State.banksWf_of_sound hrun hw nofun

/-- Reconciliation leaves the power and retention unit alone until RUN begins (R169). -/
theorem State.banksWf_reconcile (h : s.pr.Sound) (hw : s.supply = true) (origin : ResumeOrigin) (held : Nat) (unknown : Bool) :
    (s.reconcile origin held unknown).banksWf := by
  have hkeep := s.keeps_foldl _ (fun v i => v.keeps_treat s.td.now held unknown i) (s.visited origin)
  refine State.banksWf_enterRun ?_ (hkeep.supply.trans hw)
  exact hkeep.pr ▸ h

theorem State.banksWf_brownout (h : s.pr.Sound) (hw : s.supply = true) : s.brownout.banksWf :=
  State.banksWf_reconcile h hw .brownout _ false

/-! ### The owners of requests -/

theorem State.keeps_retime (s : State) (i : Fin 256) (r : Record) (v : Pending) : s.Keeps (s.retime i r v).1 := by
  unfold State.retime
  split
  · split
    · exact s.keeps_putRecord i r
    · split
      · exact s.keeps_putRecord i _
      · exact (s.keeps_putRecord i r).trans (State.keeps_expire _ i _)
  · exact s.keeps_putRecord i r

theorem State.keeps_modify (s : State) (h : Handle) (b : ModifyBody) : s.Keeps (s.modify h b).state := by
  have happly (r : Record) (m : ModifyItems) : s.Keeps (s.applyModify h.slot r m).1 := by
    unfold State.applyModify
    split
    · exact s.keeps_putRecord _ _
    · exact s.keeps_retime _ _ _
  unfold State.modify
  split
  · exact .refl s
  · split
    · exact .refl s
    · split
      · exact .refl s
      · split
        · exact .refl s
        · exact happly _ _

theorem State.keeps_renew (s : State) (h : Handle) : s.Keeps (s.renew h).state := by
  unfold State.renew
  split
  · exact .refl s
  · split
    · exact .refl s
    · split
      · exact .refl s
      · next hrenew => exact s.keeps_renewAt hrenew

/-- CHECKPOINT erases the target's marker and has a write of its own in flight (R160). -/
theorem State.banksWf_takeCheckpoint (h : u.Retains) (hp : u.pr.power = .run) : u.takeCheckpoint.state.banksWf := by
  have hsound := h.sound (by rw [hp]; exact nofun)
  unfold State.takeCheckpoint
  split
  · exact h.banks
  next hnone =>
    have hinvalid := hsound.invalidate u.pr.target.1
    refine State.banksWf_of_sound ⟨hinvalid.agree, fun c hc => ?_, hinvalid.save⟩ h.powered ?_
    · cases hc
      exact ⟨rfl, PowerUnit.writable_target hsound.agree⟩
    · show u.pr.power ≠ .loading
      rw [hp]
      exact nofun

/-- CLEAR abandons a checkpoint in flight and leaves its target invalid (R186). -/
theorem State.banksWf_clearPart (h : u.Retains) (hp : u.pr.power = .run) : u.clearPart.state.banksWf := by
  have hloading : u.pr.power ≠ .loading := by rw [hp]; exact nofun
  have hsound := h.sound hloading
  have habandoned : PowerUnit.Sound { u.pr with checkpoint := none } := ⟨hsound.agree, nofun, hsound.save⟩
  unfold State.clearPart
  dsimp only
  split <;> exact State.banksWf_of_sound habandoned h.powered hloading

theorem State.banksWf_resumeRequest (h : u.Retains) (hp : u.pr.power = .recovered) (outage : BitVec 32) :
    (u.resumeRequest outage).state.banksWf := by
  have hsound := h.sound (by rw [hp]; exact nofun)
  unfold State.resumeRequest
  split
  · exact State.banksWf_reconcile hsound h.powered .resume 0 true
  · split
    · exact h.banks
    · exact State.banksWf_reconcile hsound h.powered .resume _ false

theorem State.power_of_refusal_discard (h : u.refusal .discard = none) : u.pr.power = .recovered := by
  unfold State.refusal at h
  cases hp : u.pr.power <;> simp_all

/-- DISCARD erases both markers (R165). -/
theorem State.banksWf_discardImage (h : u.Retains) (hp : u.pr.power = .recovered) : u.discardImage.state.banksWf :=
  State.banksWf_enterRun (((h.sound (by rw [hp]; exact nofun)).invalidate 0).invalidate 1) h.powered

/-! ### Edges -/

theorem State.banksWf_edge (h : s.banksWf) (l : Fin 8) : (s.edge l).banksWf := by
  unfold State.edge
  split
  · exact (s.keeps_foldl _ (fun v i => v.keeps_edgeAction s.td.now i) _).banksWf h
  · exact h
  all_goals exact h

theorem State.banksWf_accept (h : s.banksWf) (l : Fin 8) (level : Bool) : (s.accept l level).banksWf := by
  unfold State.accept
  dsimp only
  split
  · exact State.banksWf_edge (s := s.putLine l _) h l
  · exact h

/-! ### LOADING -/

/-- LOADING judges the banks, with no write in flight (R147). -/
theorem State.Retains.sound_judged (h : u.Retains) (hp : u.pr.power = .loading) :
    PowerUnit.Sound { u.pr with banks := u.pr.store.map Bank.judge } where
  agree := ⟨h.banks.1, fun b => by simp⟩
  checkpoint c hc := nomatch (h.checkpoint_eq_none (by rw [hp]; exact nofun)).symm.trans hc
  save f hf := nomatch (h.save_eq_none (by rw [hp]; exact nofun)).symm.trans hf

theorem State.banksWf_restore (h : s.pr.Sound) (hw : s.supply = true) (img : Image) (levels : BitVec 8) :
    (s.restore img levels).banksWf :=
  State.banksWf_of_sound ⟨h.agree, h.checkpoint, h.save⟩ hw nofun

theorem State.banksWf_coldStart (h : s.pr.Sound) (hw : s.supply = true) (levels : BitVec 8) : (s.coldStart levels).banksWf :=
  State.banksWf_enterRun h hw

/-! ### The end of a frame -/

/-- The tests on a frame leave all but the port to what a good frame does (R173). -/
theorem State.banksWf_judge {seq : Byte} {good : State → State} (h : u.Retains)
    (hgood : ∀ v : State, v.Retains → (good v).banksWf) : (u.judge seq good).banksWf := by
  unfold State.judge
  split
  · exact h.banks
  · split
    · exact h.banks
    · exact hgood _ (h.withPort _)

theorem State.banksWf_replay (h : s.banksWf) : s.replay.banksWf := by
  unfold State.replay
  split <;> exact h

theorem State.banksWf_frameServed {seq : Byte} {a : Admission} {owner : State → Answer} (h : u.Retains)
    (howner : ∀ v : State, v.Retains → v.refusal a = none → (owner v).state.banksWf) : (u.frameServed seq a owner).banksWf := by
  refine State.banksWf_judge h fun v hv => ?_
  split
  · exact State.banksWf_replay hv.banks
  · cases hr : v.refusal a with
    | some st => rw [v.serve_refused hr]; exact hv.banks
    | none => rw [v.serve_admitted hr]; exact howner v hv hr

end

/-! ### Commands -/

/-- A command that leads from a part with sound banks to one. -/
def KeepsBanks (run : State → Host.Outcome State Fault Refusal) : Prop :=
  ∀ s t : State, s.modesWf → s.banksWf → run s = .next t → t.banksWf

/-- The expiries that precede an event do not reach the banks. -/
theorem keepsBanks_event {f : State → State} (hf : ∀ u : State, u.Retains → (f u).banksWf) : KeepsBanks fun s => s.event f := by
  intro s t hm hb h
  cases h
  cases hs : s.supply with
  | true => rw [if_pos rfl]; exact hf _ (State.retains_settle hm hb hs)
  | false => rw [if_neg Bool.false_ne_true]; exact hb

theorem keepsBanks_request {seq : Byte} {a : Admission} {owner : State → Answer}
    (howner : ∀ v : State, v.Retains → v.refusal a = none → (owner v).state.banksWf) :
    KeepsBanks fun s => s.request seq a owner :=
  keepsBanks_event fun _ hu => State.banksWf_frameServed hu howner

theorem keepsBanks_request_run {seq : Byte} {owner : State → Answer}
    (howner : ∀ v : State, v.Retains → v.pr.power = .run → (owner v).state.banksWf) :
    KeepsBanks fun s => s.request seq .run owner :=
  keepsBanks_request fun v hv hr => howner v hv (State.power_of_refusal_run hr)

theorem keepsBanks_powerOn (pwarn rstn : Bool) : KeepsBanks (execPowerOn pwarn rstn) := by
  intro s t _ hb h
  cases h
  exact ⟨hb.1, fun _ hp => absurd rfl hp, nofun, nofun⟩

/-- A loss of supply abandons every write in flight (R159). -/
theorem keepsBanks_supplyLost : KeepsBanks execSupplyLost :=
  keepsBanks_event fun _ hu => ⟨hu.banks.1, nofun, nofun, nofun⟩

/-- The dark part, which has no write in flight, loses both banks (R147). -/
theorem keepsBanks_storeContentsLost : KeepsBanks execStoreContentsLost := by
  intro s t _ hb h
  cases h
  split
  · exact hb
  next hdark =>
    obtain ⟨-, -, hcheckpoint, hsave⟩ := hb
    exact ⟨.inl rfl, fun hw => absurd hw hdark, fun c hc => absurd (hcheckpoint c hc).1 hdark,
      fun f hf => absurd (hsave f hf).1 hdark⟩

theorem keepsBanks_rstnAsserted : KeepsBanks execRstnAsserted :=
  keepsBanks_event fun _ hu => ⟨hu.banks.1, fun _ hp => absurd rfl hp, nofun, nofun⟩

theorem keepsBanks_rstnReleased : KeepsBanks execRstnReleased := keepsBanks_event fun _ hu => hu.banks

theorem keepsBanks_loadingComplete (levels : BitVec 8) : KeepsBanks (execLoadingComplete levels) :=
  keepsBanks_event fun u hu => by
    split
    next hp _ =>
      have hsound := hu.sound_judged hp
      dsimp only
      split
      · exact State.banksWf_restore (s := State.holdResponse { u with pr := _ } _) hsound hu.powered _ levels
      · exact State.banksWf_coldStart (s := State.holdResponse { u with pr := _ } _) hsound hu.powered levels
    · exact hu.banks

theorem keepsBanks_pwarnAsserted : KeepsBanks execPwarnAsserted :=
  keepsBanks_event fun u hu => by
    dsimp only
    split
    next hp =>
      have hsound := hu.sound (by rw [hp]; exact nofun)
      refine State.banksWf_enterHold ?_ hu.powered
      exact ⟨hsound.agree, hsound.checkpoint, hsound.save⟩
    · exact hu.banks

theorem keepsBanks_pwarnWithdrawn : KeepsBanks execPwarnWithdrawn :=
  keepsBanks_event fun u hu => by
    dsimp only
    split
    next hp =>
      have hsound := hu.sound (by rw [hp]; exact nofun)
      refine State.banksWf_brownout ?_ hu.powered
      exact ⟨hsound.agree, hsound.checkpoint, hsound.save⟩
    · exact hu.banks

theorem keepsBanks_holdSaveComplete : KeepsBanks execHoldSaveComplete :=
  keepsBanks_event fun u hu => by
    split
    · exact hu.banks
    next f hf =>
      have hp : u.pr.power = .hold := hu.save (by rw [hf]; rfl)
      have hsound := hu.sound (by rw [hp]; exact nofun)
      have hsaved := hsound.saved (img := u.image .holdSave f.generation) (hu.checkpoint_eq_none (by rw [hp]; exact nofun))
        (hsound.save f hf)
      dsimp only
      split
      · exact State.banksWf_of_sound ⟨hsaved.agree, hsaved.checkpoint, hsaved.save⟩ hu.powered nofun
      · exact State.banksWf_brownout hsaved hu.powered

theorem keepsBanks_checkpointComplete : KeepsBanks execCheckpointComplete :=
  keepsBanks_event fun u hu => by
    split
    · exact hu.banks
    next c hc =>
      have hp : u.pr.power = .run := hu.checkpoint (by rw [hc]; rfl)
      have hsound := hu.sound (by rw [hp]; exact nofun)
      obtain ⟨hgen, hwritable⟩ := hsound.checkpoint c hc
      have hdone := hsound.checkpointed (img := c.snapshot) (hu.save_eq_none (by rw [hp]; exact nofun)) (hgen ▸ hwritable)
      refine State.banksWf_of_sound hdone hu.powered ?_
      show (u.pr.written c.bank c.snapshot).power ≠ .loading
      rw [PowerUnit.power_written, hp]
      exact nofun

theorem keepsBanks_tick : KeepsBanks execTick :=
  keepsBanks_event fun u hu => by
    split <;> exact hu.banks

theorem keepsBanks_expiry : KeepsBanks execExpiry := by
  intro s t _ hb h
  cases h
  split
  · split
    · exact (s.keeps_expire _ _).banksWf hb
    · exact hb
  · exact hb

theorem keepsBanks_candidateAccepted (l : Fin 8) : KeepsBanks (execCandidateAccepted l) :=
  keepsBanks_event fun u hu => by
    split
    · exact hu.banks
    · exact hu.banks
    · exact State.banksWf_accept hu.banks l _

theorem keepsBanks_sampledLevelChange (l : Fin 8) (level : Bool) : KeepsBanks (execSampledLevelChange l level) :=
  keepsBanks_event fun u hu => by
    dsimp only
    split
    · exact hu.banks
    · split
      · exact hu.banks
      · split
        · exact State.banksWf_accept hu.banks l level
        · split <;> exact hu.banks

theorem keepsBanks_hrstPulseEnd : KeepsBanks execHrstPulseEnd := keepsBanks_event fun _ hu => hu.banks

theorem keepsBanks_emptyFrame : KeepsBanks execEmptyFrame := keepsBanks_event fun _ hu => hu.banks

theorem keepsBanks_csnFallingEdge (soon : Bool) : KeepsBanks (execCsnFallingEdge soon) :=
  keepsBanks_event fun u hu => by
    split <;> exact hu.banks

theorem keepsBanks_ignoredFrame : KeepsBanks execIgnoredFrame :=
  keepsBanks_event fun u hu => by
    split <;> exact hu.banks

theorem keepsBanks_starting (bytes : List Byte) : KeepsBanks (execStarting bytes) :=
  keepsBanks_event fun u hu => by
    split
    · exact hu.banks
    · split
      · exact State.banksWf_judge hu fun _ hv => hv.banks
      · exact hu.banks

theorem keepsBanks_frameError (bytes : List Byte) : KeepsBanks (execFrameError bytes) :=
  keepsBanks_event fun u hu => by
    split
    · exact State.banksWf_judge hu fun _ hv => hv.banks
    · exact hu.banks

theorem keepsBanks_duplicate (seq code : Byte) (body : List Byte) : KeepsBanks (execDuplicate seq code body) :=
  keepsBanks_event fun u hu => by
    split
    · exact State.banksWf_judge hu fun _ hv => State.banksWf_replay hv.banks
    · exact hu.banks

theorem keepsBanks_badRequest (seq code : Byte) (body : List Byte) : KeepsBanks (execBadRequest seq code body) :=
  keepsBanks_event fun u hu => by
    split
    · exact hu.banks
    · refine State.banksWf_judge hu fun v hv => ?_
      split
      · exact State.banksWf_replay hv.banks
      · exact hv.banks

/-- Every command keeps the banks sound. -/
theorem keepsBanks_exec (c : Instr) : KeepsBanks (exec c) := by
  cases c with
  | powerOn pwarn rstn => exact keepsBanks_powerOn pwarn rstn
  | storeContentsLost => exact keepsBanks_storeContentsLost
  | supplyLost => exact keepsBanks_supplyLost
  | rstnAsserted => exact keepsBanks_rstnAsserted
  | rstnReleased => exact keepsBanks_rstnReleased
  | loadingComplete levels => exact keepsBanks_loadingComplete levels
  | pwarnAsserted => exact keepsBanks_pwarnAsserted
  | pwarnWithdrawn => exact keepsBanks_pwarnWithdrawn
  | holdSaveComplete => exact keepsBanks_holdSaveComplete
  | checkpointComplete => exact keepsBanks_checkpointComplete
  | tick => exact keepsBanks_tick
  | expiry => exact keepsBanks_expiry
  | candidateAccepted l => exact keepsBanks_candidateAccepted l
  | sampledLevelChange l level => exact keepsBanks_sampledLevelChange l level
  | starting bytes => exact keepsBanks_starting bytes
  | frameError bytes => exact keepsBanks_frameError bytes
  | duplicate seq code body => exact keepsBanks_duplicate seq code body
  | badRequest seq code body => exact keepsBanks_badRequest seq code body
  | checkpoint seq => exact keepsBanks_request_run fun _ hv hp => State.banksWf_takeCheckpoint hv hp
  | clear seq => exact keepsBanks_request_run fun _ hv hp => State.banksWf_clearPart hv hp
  | resume seq outage =>
    exact keepsBanks_request fun _ hv hr => State.banksWf_resumeRequest hv (State.power_of_refusal_resume hr) outage
  | discard seq => exact keepsBanks_request fun _ hv hr => State.banksWf_discardImage hv (State.power_of_refusal_discard hr)
  | modify seq h m => exact keepsBanks_request fun v hv _ => (v.keeps_modify h m).banksWf hv.banks
  | renew seq h => exact keepsBanks_request fun v hv _ => (v.keeps_renew h).banksWf hv.banks
  | safe seq => exact keepsBanks_request fun v hv _ => (v.keeps_enterSafe _ _).banksWf hv.banks
  | hrstPulseEnd => exact keepsBanks_hrstPulseEnd
  | emptyFrame => exact keepsBanks_emptyFrame
  | csnFallingEdge soon => exact keepsBanks_csnFallingEdge soon
  | ignoredFrame => exact keepsBanks_ignoredFrame
  -- No branch of the other owners writes the power and retention unit.
  | nop | status | define | retire | query | find | setTick | start | stop | restart | pause | continueRecord | join | leave
  | groupStart | groupStop | groupPause | groupContinue | setLine | bind | unbind | route | release | fetch | setAttn =>
    refine keepsBanks_request fun v hv _ => ?_
    dsimp only [State.define, State.retire, State.query, State.find, State.setTick, State.startRecord, State.stopRecord,
      State.restartRecord, State.pauseRecord, State.continueRecord, State.joinGroup, State.leaveGroup, State.startGroup,
      State.stopGroup, State.pauseGroup, State.continueGroup, State.setLine, State.bindRecord, State.unbindRecord,
      State.routeOutput, State.releaseSafe, State.fetchEntry, State.setThreshold]
    repeat' split
    all_goals exact hv.banks

/-- The idle step does not reach the banks. -/
theorem State.banksWf_idle {s : State} (h : s.banksWf) : s.idle.banksWf := by
  unfold State.idle
  repeat' split
  all_goals exact h

/-- Settles O60: a step runs a command, which keeps the banks sound from the settled part on, or idles. -/
theorem banksKept : Obligations.BanksKept := by
  intro s t hm hb h
  unfold step at h
  split at h
  · cases h
    exact State.banksWf_idle hb
  · next c rest _ => exact keepsBanks_exec c { s with pending := rest } t hm hb h

end Sys2Proof.Machine
end

-- ==== The host port: requests refused before their owner ====
section
/-! SUPPORT. Which power states execute a request, by its code (R150), and the refusals that come before its owner (R176 steps 1 and
2). -/

namespace Sys2Proof.Machine

/-- The power states that execute the request of a code (R150). -/
def admissionOf (code : Byte) : Admission :=
  if code ∈ [0x00#8, 0x01#8, 0x12#8, 0x13#8, 0x50#8] then .always
  else if code = 0x51#8 then .runOrRecovered
  else if code = 0x59#8 then .resume
  else if code = 0x5A#8 then .discard
  else .run

/-- Every request is served by some owner, under the admission of its code. -/
theorem exec_eq_request {i : Instr} {seq code : Byte} {body : List Byte} (h : requestFields i = some (seq, code, body)) :
    ∃ owner : State → Answer, ∀ s : State, exec i s = s.request seq (admissionOf code) owner := by
  cases i with
  | powerOn | supplyLost | rstnAsserted | rstnReleased | loadingComplete | pwarnAsserted | pwarnWithdrawn | holdSaveComplete
  | checkpointComplete | tick | expiry | hrstPulseEnd | candidateAccepted | ignoredFrame | emptyFrame | starting | frameError
  | duplicate | badRequest | sampledLevelChange | csnFallingEdge | storeContentsLost => cases h
  | _ => cases h; exact ⟨_, fun _ => rfl⟩

section
variable {s : State} {a : Admission} {seq code : Byte} {body : List Byte}

/-- HOLD and PARKED execute only what every power state executes (R150). -/
theorem State.refusal_held (hp : s.pr.power = .hold ∨ s.pr.power = .parked) (ha : a ≠ .always) : s.refusal a = some .holding := by
  rcases hp with hp | hp <;> cases a <;> simp_all [State.refusal]

theorem admissionOf_ne_always (h : code ∉ [0x00#8, 0x01#8, 0x12#8, 0x13#8, 0x50#8]) : admissionOf code ≠ .always := by
  unfold admissionOf
  rw [if_neg h]
  repeat' split
  all_goals exact nofun

/-- A code that RECOVERED does not execute is one that RUN alone executes. -/
theorem admissionOf_eq_run (h : code ∉ [0x00#8, 0x01#8, 0x12#8, 0x13#8, 0x50#8, 0x51#8, 0x59#8, 0x5A#8]) :
    admissionOf code = .run := by
  simp only [List.mem_cons, List.not_mem_nil, or_false, not_or] at h
  simp [admissionOf, h]

/-- A frame with an unknown CODE or a wrong LEN is refused before any other test (R176 step 1). -/
theorem State.exec_badRequest {p : PowerState} (hready : s.ready p seq) (hlen : requestLength code ≠ some body.length) :
    exec (.badRequest seq code body) s = .next (s.answering seq .badRequest []) := by
  obtain ⟨hsteady, hloading, hclean, hseq⟩ := hready
  have hpower : s.pr.power ≠ .loading := hsteady.2.1 ▸ hloading
  have hnew : s.endFrame.hp.lastSeq ≠ some seq := hseq
  rw [show exec (.badRequest seq code body) s = execBadRequest seq code body s from rfl, execBadRequest,
    s.event_of_steady hsteady, if_neg hlen, s.judge_clean hclean hpower, if_neg hnew, State.endFrame_answer]

end

/-- Settles O10: by R150's table, a request that the power state turns away does not reach its owner. -/
theorem requestsRefusedBeforeOwner : Obligations.RequestsRefusedBeforeOwner := by
  refine ⟨fun s p seq code body hready hlen => State.exec_badRequest hready hlen, fun s i seq code body hfields => ?_⟩
  obtain ⟨owner, hexec⟩ := exec_eq_request hfields
  have hrefused {p : PowerState} {st : Status} (hready : s.ready p seq) (hst : s.refusal (admissionOf code) = some st) :
      exec i s = .next (s.answering seq st []) := State.exec_of_refused hexec hready hst
  refine ⟨fun hready hcode => ?recovered, fun hready hcode hpwarn => ?resume, fun hready hcode => ?run, fun hready hcode => ?held⟩
  case recovered =>
    refine hrefused hready ?_
    rw [admissionOf_eq_run hcode]
    simp only [State.refusal, hready.1.2.1]
  case resume =>
    subst hcode
    refine hrefused hready ?_
    simp [State.refusal, hready.1.2.1, hpwarn, show admissionOf 0x59#8 = .resume from rfl]
  case run =>
    refine hrefused hready ?_
    rcases hcode with rfl | rfl
    · simp only [State.refusal, hready.1.2.1, show admissionOf 0x59#8 = .resume from rfl]
    · simp only [State.refusal, hready.1.2.1, show admissionOf 0x5A#8 = .discard from rfl]
  case held =>
    have hnot := admissionOf_ne_always hcode
    rcases hready with hready | hready
    · exact hrefused hready (State.refusal_held (.inl hready.1.2.1) hnot)
    · exact hrefused hready (State.refusal_held (.inr hready.1.2.1) hnot)

end Sys2Proof.Machine
end

-- ==== Retention: CHECKPOINT, HOLD and the hold save ====
section
/-! SUPPORT. What an image holds (R157), CHECKPOINT and its completion (R160, R161), the beginning of HOLD (R151) and of RUN
(R154), and the completion of the hold save, which reads nothing of the power state (R153). -/

namespace Sys2Proof.Machine

/-! ### Images (R157) -/

theorem State.length_slotsWhere_true (s : State) :
    (s.slotsWhere fun _ => true).length = ((List.finRange 256).filter fun i => (s.recordAt i).isSome).length := by
  have hany (o : Option Record) : (o.any fun _ => true) = o.isSome := by cases o <;> rfl
  simp only [State.slotsWhere, hany]

theorem State.imagedBy_image (s : State) (origin : Origin) (g : BitVec 32) : s.imagedBy (s.image origin g) origin g := by
  refine ⟨rfl, rfl, rfl, rfl, rfl, rfl, rfl, s.length_slotsWhere_true, rfl, fun l => ?_, fun i => ⟨?_, ?_⟩⟩
  · simp [State.image]
  · simp [State.image]
  · simp only [State.image, Fin.getElem_fin, Vector.getElem_map, State.recordAt]
    rfl

/-! ### CHECKPOINT and its completion (R160, R161) -/

section
variable {s : State} {p : PowerState} {b : Fin 2} {g : BitVec 32} {c : CheckpointInFlight}

theorem State.takeCheckpoint_busy (hc : s.pr.checkpoint = some c) : s.takeCheckpoint = ⟨s, .busy, []⟩ := by
  simp only [State.takeCheckpoint, hc, refuse]

theorem State.takeCheckpoint_eq (hnone : s.pr.checkpoint = none) (htarget : s.pr.isTarget b g) :
    s.takeCheckpoint =
      ⟨{ s with pr := { s.pr.invalidate b with checkpoint := some ⟨b, g, s.image .checkpoint g⟩ } }, .accepted,
        [BitVec.ofNat 8 b.val] ++ bytes32 g⟩ := by
  simp only [State.takeCheckpoint, hnone, PowerUnit.target_of_isTarget htarget]

/-- The completion of a checkpoint changes the banks and ends the write, and nothing else of the unit. -/
theorem PowerUnit.checkpointed_eq (p : PowerUnit) (b : Fin 2) (img : Image) :
    ({ p.written b img with checkpoint := none } : PowerUnit) =
      { p with store := (p.written b img).store, banks := (p.written b img).banks, checkpoint := none } := by
  rw [p.written_eq b img]

theorem PowerUnit.saved_eq (p : PowerUnit) (b : Fin 2) (img : Image) :
    ({ p.written b img with save := none } : PowerUnit) =
      { p with store := (p.written b img).store, banks := (p.written b img).banks, save := none } := by
  rw [p.written_eq b img]

theorem State.exec_checkpointComplete (hsteady : s.steady p) (hc : s.pr.checkpoint = some c) :
    exec .checkpointComplete s = .next (State.postSystem
      { s with pr := { s.pr.written c.bank c.snapshot with checkpoint := none } } (.checkpointDone c.generation) s.td.now) := by
  rw [show exec .checkpointComplete s = execCheckpointComplete s from rfl, execCheckpointComplete, s.event_of_steady hsteady]
  simp only [hc]

end

/-- Settles O46: the target that the part takes is the rules' target, and a completed write is `bankWritten`. -/
theorem checkpointTakenAndCompleted : Obligations.CheckpointTakenAndCompleted := by
  refine ⟨fun seq => refusedOutsideRun_of_request fun _ => rfl, fun s seq c hready hc => ?busy,
    fun s seq b g hready hnone htarget => ?taken, fun s p c hsteady hc => ?completed⟩
  case busy =>
    exact State.exec_of_owner (owner := State.takeCheckpoint) (fun _ => rfl) hready (State.takeCheckpoint_busy (s := s.endFrame) hc)
  case taken =>
    exact ⟨s.image .checkpoint g, s.imagedBy_image _ _,
      State.exec_of_owner (owner := State.takeCheckpoint) (u := { s with pr := _ }) (fun _ => rfl) hready
        (State.takeCheckpoint_eq (s := s.endFrame) hnone htarget)⟩
  case completed =>
    refine ⟨_, s.pr.bankWritten_written c.bank c.snapshot, ?_⟩
    rw [State.exec_checkpointComplete hsteady hc, PowerUnit.checkpointed_eq]
    rfl

/-! ### The beginning of HOLD and of RUN (R151, R154) -/

section
variable {s : State}

theorem State.enterHold_inherits {c : CheckpointInFlight} (hc : s.pr.checkpoint = some c) :
    s.enterHold = State.postSystem
      { s with
        td := { s.td with holdCounter := 0, divider := 0 }
        pr := { s.pr with power := .hold, checkpoint := none, save := some ⟨c.bank, c.generation⟩ } }
      (.checkpointAbandoned .power) s.td.now := by
  simp only [State.enterHold, hc]

theorem State.enterHold_targets {b : Fin 2} {g : BitVec 32} (hnone : s.pr.checkpoint = none) (htarget : s.pr.isTarget b g) :
    s.enterHold =
      { s with
        td := { s.td with holdCounter := 0, divider := 0 }
        pr := { s.pr.invalidate b with power := .hold, save := some ⟨b, g⟩ } } := by
  simp only [State.enterHold, hnone, PowerUnit.target_of_isTarget htarget]

theorem State.enterRun_eq (hpwarn : s.pr.pwarn = false) :
    s.enterRun = { s with td := { s.td with divider := 0 }, pr := { s.pr with power := .run } } := by
  unfold State.enterRun
  dsimp only
  rw [if_neg (by rw [hpwarn]; exact Bool.false_ne_true)]

theorem State.exec_pwarnAsserted_run (hsteady : s.steady .run) :
    exec .pwarnAsserted s = .next (State.enterHold { s with pr := { s.pr with pwarn := true } }) := by
  rw [show exec .pwarnAsserted s = execPwarnAsserted s from rfl, execPwarnAsserted, s.event_of_steady hsteady]
  simp only [hsteady.2.1]

end

/-- Settles O47: in RUN PWARN begins HOLD, with the target of the checkpoint in flight or the rules' target. -/
theorem pwarnAssertedHolds : Obligations.PwarnAssertedHolds := by
  refine ⟨fun s p hsteady hp => ?noted, fun s c hsteady hc => ?inherited, fun s b g hsteady hnone htarget => ?targeted⟩
  case noted =>
    rw [show exec .pwarnAsserted s = execPwarnAsserted s from rfl, execPwarnAsserted, s.event_of_steady hsteady]
    dsimp only
    split
    next hrun => exact absurd (hsteady.2.1.symm.trans hrun) hp
    next => rfl
  case inherited =>
    rw [State.exec_pwarnAsserted_run hsteady, State.enterHold_inherits (s := { s with pr := { s.pr with pwarn := true } }) hc]
    rfl
  case targeted =>
    rw [State.exec_pwarnAsserted_run hsteady,
      State.enterHold_targets (s := { s with pr := { s.pr with pwarn := true } }) hnone htarget]
    rfl

/-! ### The power state is no part of reconciliation -/

/-- The part in another power state. -/
def State.withPower (s : State) (p : PowerState) : State := { s with pr := { s.pr with power := p } }

section
variable (s : State) (p : PowerState)

theorem State.applyConsequence_withPower (h : Handle) (c : Consequence) (t : Time) :
    (s.withPower p).applyConsequence h c t = (s.applyConsequence h c t).withPower p := by
  have hsafe : (s.withPower p).enterSafe (.handle h) t = (s.enterSafe (.handle h) t).withPower p := by
    cases hset : s.ou.safe with
    | some c => rw [s.enterSafe_set hset, (s.withPower p).enterSafe_set hset]
    | none => rw [s.enterSafe_clear hset, (s.withPower p).enterSafe_clear hset]; rfl
  cases c with
  | notify => rfl
  | safe => exact hsafe
  | safeAndReset => exact congrArg (fun u => u.hostReset h t) hsafe

theorem State.fault_withPower (i : Fin 256) (r : Record) (k : Occurrence) (t : Time) :
    (s.withPower p).fault i r k t = (s.fault i r k t).withPower p :=
  congrArg (fun u => State.putRecord u i { r.phaseAFrom .lapsed t with missCount := satIncr r.missCount })
    ((s.post i r k t).applyConsequence_withPower p (s.handleAt i) r.consequence t)

theorem State.phaseAEnd_withPower (i : Fin 256) (r : Record) (run : Run) (n : Time) :
    (s.withPower p).phaseAEnd i r run n = (s.phaseAEnd i r run n).withPower p := by
  unfold State.phaseAEnd
  split <;> rfl

theorem State.cycleEnd_withPower (i : Fin 256) (r : Record) (n : Time) :
    (s.withPower p).cycleEnd i r n = (s.cycleEnd i r n).withPower p := by
  have hposted : (if r.notify.cycle then (s.withPower p).post i r .cycle n else s.withPower p) =
      (if r.notify.cycle then s.post i r .cycle n else s).withPower p := by split <;> rfl
  unfold State.cycleEnd
  dsimp only
  rw [hposted]
  split
  · rfl
  · split <;> rfl

theorem State.expire_withPower (i : Fin 256) (n : Time) : (s.withPower p).expire i n = (s.expire i n).withPower p := by
  have hrec : (s.withPower p).recordAt i = s.recordAt i := rfl
  unfold State.expire
  rw [hrec]
  split
  · rfl
  next r _ =>
    split
    · split
      case h_1 => rfl
      case h_2 | h_5 => exact s.phaseAEnd_withPower p i r _ n
      case h_3 => exact s.cycleEnd_withPower p i r n
      case h_4 | h_6 => exact s.fault_withPower p i r .miss n
    · rfl

theorem State.replayDue_withPower (i : Fin 256) (newNow : Time) (fuel : Nat) :
    (s.withPower p).replayDue i newNow fuel = (s.replayDue i newNow fuel).withPower p := by
  induction fuel generalizing s with
  | zero => rfl
  | succ fuel ih =>
    have hdue : (s.withPower p).dueAt i = s.dueAt i := rfl
    simp only [State.replayDue, hdue]
    split
    next due _ =>
      split
      · rw [s.expire_withPower, ih]
      · rfl
    next => rfl

theorem State.treat_withPower (frozen : Time) (h : Nat) (unknown : Bool) (i : Fin 256) :
    (s.withPower p).treat frozen h unknown i = (s.treat frozen h unknown i).withPower p := by
  have hrec : (s.withPower p).recordAt i = s.recordAt i := rfl
  unfold State.treat
  rw [hrec]
  split
  · rfl
  next r _ =>
    dsimp only
    split
    · rfl
    · exact (s.putRecord i (r.unparked frozen)).replayDue_withPower p i _ _

/-- Brownout reconciliation ends in a power state of its own, whatever the one it began in. -/
theorem State.brownout_withPower : (s.withPower p).brownout = s.brownout := by
  have hfold (l : List (Fin 256)) : l.foldl (fun u i => u.treat s.td.now s.td.holdCounter false i) (s.withPower p) =
      (l.foldl (fun u i => u.treat s.td.now s.td.holdCounter false i) s).withPower p :=
    List.foldl_hom (State.withPower · p) fun u i => u.treat_withPower p _ _ false i
  show State.endReconciliation (s.dueOrder.foldl (fun u i => u.treat s.td.now s.td.holdCounter false i) (s.withPower p))
    .brownout s.td.holdCounter (s.td.now + BitVec.ofNat 32 s.td.holdCounter) s.dueOrder.length = _
  rw [hfold]
  rfl

end

/-! ### The completion of the hold save (R153) -/

section
variable {s : State} {p : PowerState} {f : SaveInFlight}

/-- The part when the write of the hold save is complete. -/
def State.holdSaved (s : State) (f : SaveInFlight) : State :=
  { s with pr := { s.pr.written f.bank (s.image .holdSave f.generation) with save := none } }

theorem State.exec_holdSaveComplete (hsteady : s.steady p) (hf : s.pr.save = some f) :
    exec .holdSaveComplete s =
      .next (if s.pr.pwarn then (s.holdSaved f).withPower .parked else (s.holdSaved f).brownout) := by
  rw [show exec .holdSaveComplete s = execHoldSaveComplete s from rfl, execHoldSaveComplete, s.event_of_steady hsteady]
  simp only [hf]
  rfl

theorem State.holdSaved_eq : s.holdSaved f =
    { s with pr := { s.pr with
      store := (s.pr.written f.bank (s.image .holdSave f.generation)).store
      banks := (s.pr.written f.bank (s.image .holdSave f.generation)).banks
      save := none } } := by
  rw [State.holdSaved, PowerUnit.saved_eq]

end

/-- Settles O48: with PWARN withdrawn the brownout of the saved part is that of the part parked first. -/
theorem holdSaveCompletes : Obligations.HoldSaveCompletes := by
  intro s p f hsteady hp hf
  refine ⟨s.image .holdSave f.generation, _, s.imagedBy_image _ _, s.pr.bankWritten_written f.bank _, ?_⟩
  intro parked
  have hparked : (s.holdSaved f).withPower .parked = parked := by rw [State.holdSaved_eq]; rfl
  rw [State.exec_holdSaveComplete hsteady hf]
  refine ⟨fun hpwarn => ?asserted, fun hpwarn => ?withdrawn⟩
  case asserted => rw [if_pos hpwarn, hparked]
  case withdrawn =>
    have hsteady' : parked.steady .parked := ⟨hsteady.1, rfl, nofun⟩
    have hnoted : ({ parked with pr := { parked.pr with pwarn := false } } : State) = parked := by
      rw [← hpwarn]
    rw [if_neg (by rw [hpwarn]; exact Bool.false_ne_true), State.exec_pwarnWithdrawn_parked hsteady', hnoted, ← hparked,
      State.brownout_withPower]

end Sys2Proof.Machine
end

-- ==== Reconciliation: the visits ====
section
/-! SUPPORT. What a visit does to its record under each Hold policy (R167, R168), the replay as expiries one after another, and
reconciliation as the chain of its visits in R166's order. -/

namespace Sys2Proof.Machine

/-! ### The replay as expiries one after another (R168 step 2) -/

theorem isPast_iff_signed {due n : Time} : isPast due n = true ↔ due - n = 0 ∨ (due - n).msb = true := by simp [isPast]

/-- A due that HOLD admits at `n` is not past there. -/
theorem RecordOf.not_isPast_of_dueWf {r : Record} {n start due : Time} {run : Run} {phase : Phase} (hd : r.dueWf .hold n = true)
    (ht : r.timing = .active run phase start due) : ¬ isPast due n = true := by
  obtain ⟨hpos, hle⟩ := (r.dueWf_hold_iff ht).mp hd
  have hlt := toNat_ticks_lt (r.period phase)
  rw [isPast_iff_signed, BitVec.msb_eq_decide, ← BitVec.toNat_inj, decide_eq_true_eq]
  show ¬ ((due - n).toNat = 0 ∨ 2147483648 ≤ (due - n).toNat)
  omega

section
variable {s u : State} {i : Fin 256} {newNow due : Time}

/-- No expiry is taken where no due is past. -/
theorem State.caughtUp_refl (hend : ∀ due, s.dueAt i = some due → ¬ isPast due newNow = true) : s.caughtUp s i newNow :=
  ⟨[], rfl, nofun, fun due hdue hpast => hend due hdue (isPast_iff_signed.mpr hpast)⟩

/-- An expiry at a past due comes before the others. -/
theorem State.caughtUp_expire (hdue : s.dueAt i = some due) (hpast : isPast due newNow = true)
    (h : (s.expire i due).caughtUp u i newNow) : s.caughtUp u i newNow := by
  obtain ⟨dues, hu, htaken, hend⟩ := h
  refine ⟨due :: dues, hu, fun k due' hk => ?_, hend⟩
  cases k with
  | zero =>
    cases hk
    exact ⟨hdue, isPast_iff_signed.mp hpast⟩
  | succ k => exact htaken k due' hk

/-- A replay that ends with no due past has taken the expiries of the past dues. -/
theorem State.caughtUp_replayDue (fuel : Nat)
    (hend : ∀ due, (s.replayDue i newNow fuel).dueAt i = some due → ¬ isPast due newNow = true) :
    s.caughtUp (s.replayDue i newNow fuel) i newNow := by
  induction fuel generalizing s with
  | zero => exact State.caughtUp_refl hend
  | succ fuel ih =>
    rcases s.replayDue_succ_cases i newNow fuel with ⟨due, hdue, hpast, hturn⟩ | ⟨hahead, hover⟩
    · rw [hturn] at hend ⊢
      exact State.caughtUp_expire hdue hpast (ih hend)
    · rw [hover]
      exact State.caughtUp_refl hahead

end

/-! ### One visit (R167, R168) -/

section
variable {s : State} {i : Fin 256} {r : Record} {frozen : Time} {h : Nat} {unknown : Bool} {run : Run} {phase : Phase}
  {start due remaining : Time}

theorem State.putRecord_same (hr : s.recordAt i = some r) : s.putRecord i r = s := by
  have hslot : ({ s.slots[i] with record := some r } : Slot) = s.slots[i] := by rw [← hr]; rfl
  have hslots : (s.putRecord i r).slots = s.slots := by
    rw [State.putRecord_slots, hslot]
    exact Vector.set_getElem_self _
  exact congrArg (fun slots => ({ s with slots := slots } : State)) hslots

theorem RecordOf.stretched_active (ht : r.timing = .active run phase start due) (h : Nat) (newNow : Time) :
    r.stretched h newNow =
      { r with timing := .active run phase (start + BitVec.ofNat 32 h) (due + BitVec.ofNat 32 h) } := by
  simp only [RecordOf.stretched, ht]

theorem RecordOf.stretched_parked (ht : r.timing = .parked run phase remaining) (h : Nat) (newNow : Time) :
    r.stretched h newNow =
      { r with timing := .active run phase (newNow + remaining - ticks (r.period phase)) (newNow + remaining) } := by
  simp only [RecordOf.stretched, ht]

theorem RecordOf.unparked_active (ht : r.timing = .active run phase start due) (frozen : Time) : r.unparked frozen = r := by
  simp only [RecordOf.unparked, ht]

theorem RecordOf.unparked_parked (ht : r.timing = .parked run phase remaining) (frozen : Time) :
    r.unparked frozen =
      { r with timing := .active run phase (frozen + remaining - ticks (r.period phase)) (frozen + remaining) } := by
  simp only [RecordOf.unparked, ht]

theorem State.treat_stretched (hr : s.recordAt i = some r) (hpolicy : unknown = true ∨ r.holdPolicy = .stretch) :
    s.treat frozen h unknown i = s.putRecord i (r.stretched h (frozen + BitVec.ofNat 32 h)) := by
  have hcond : (unknown || r.holdPolicy == .stretch) = true := by simpa using hpolicy
  simp only [State.treat, hr, hcond, if_true]

theorem State.treat_replayed (hr : s.recordAt i = some r) (hpolicy : r.holdPolicy = .catchup) :
    s.treat frozen h false i =
      (s.putRecord i (r.unparked frozen)).replayDue i (frozen + BitVec.ofNat 32 h) (h + 1) := by
  have hcond : (false || r.holdPolicy == .stretch) = false := by rw [hpolicy]; rfl
  simp only [State.treat, hr, hcond, Bool.false_eq_true, if_false]

/-- A CATCHUP record whose due is not past takes no expiry. -/
theorem State.recordAt_treat_ahead (hr : s.recordAt i = some r) (hpolicy : r.holdPolicy = .catchup)
    (ht : (r.unparked frozen).timing = .active run phase start due)
    (hahead : ¬ isPast due (frozen + BitVec.ofNat 32 h) = true) :
    (s.treat frozen h false i).recordAt i = some (r.unparked frozen) := by
  have hput := s.recordAt_putRecord_self i (r.unparked frozen)
  rw [State.treat_replayed hr hpolicy, State.replayDue_of_ahead (State.dueAt_eq_some _ |>.mpr ⟨_, _, _, _, hput, ht⟩) hahead, hput]

/-- The visit of a CATCHUP record takes its expiry at every successive past due, and leaves none past. -/
theorem State.caughtUp_treat (hh : h ≤ Config.holdMax) (hr : s.recordAt i = some r) (hpolicy : r.holdPolicy = .catchup)
    (hpos : r.PeriodsPos) (hd : r.dueWf .hold frozen = true)
    (hne : ∀ run phase remaining, r.timing ≠ .paused run phase remaining) :
    (s.putRecord i (r.unparked frozen)).caughtUp (s.treat frozen h false i) i (frozen + BitVec.ofNat 32 h) := by
  obtain ⟨r', hr', hd'⟩ := s.recordAt_treat hh false hr hpos hd hne
  rw [State.treat_replayed hr hpolicy] at hr' ⊢
  refine State.caughtUp_replayDue _ fun due hdue => ?_
  obtain ⟨r'', run, phase, start, hr'', ht⟩ := (State.dueAt_eq_some _).mp hdue
  cases hr'.symm.trans hr''
  exact RecordOf.not_isPast_of_dueWf hd' ht

end

/-! ### The visits, one after another (R166) -/

/-- The part when reconciliation has visited the first `k` records of its order. -/
def State.visit (s : State) (origin : ResumeOrigin) (h : Nat) (unknown : Bool) (k : Nat) : State :=
  ((s.visited origin).take k).foldl (fun u i => u.treat s.td.now h unknown i) s

section
variable {s : State} {origin : ResumeOrigin} {h k : Nat} {unknown : Bool} {i : Fin 256} {r : Record} {run : Run} {phase : Phase}
  {start due : Time}

theorem State.visit_succ (hi : (s.visited origin)[k]? = some i) :
    s.visit origin h unknown (k + 1) = (s.visit origin h unknown k).treat s.td.now h unknown i := by
  rw [State.visit, List.take_add_one, hi, List.foldl_append]
  rfl

theorem State.visit_beyond (hi : (s.visited origin)[k]? = none) :
    s.visit origin h unknown (k + 1) = s.visit origin h unknown k := by
  rw [State.visit, List.take_add_one, hi, Option.toList_none, List.append_nil]
  rfl

theorem State.keeps_visit (s : State) (origin : ResumeOrigin) (h : Nat) (unknown : Bool) (k : Nat) :
    s.Keeps (s.visit origin h unknown k) :=
  s.keeps_foldl _ (fun u i => u.keeps_treat s.td.now h unknown i) _

theorem State.recordAt_visit_of_notMem (hi : i ∉ (s.visited origin).take k) :
    (s.visit origin h unknown k).recordAt i = s.recordAt i :=
  congrArg Slot.record (s.slots_foldl_of_notMem _ (fun u i j => u.slots_treat_ne s.td.now h unknown i j) hi)

/-- A record meets its visit as it stood at the beginning. -/
theorem State.recordAt_visit (hi : (s.visited origin)[k]? = some i) :
    (s.visit origin h unknown k).recordAt i = s.recordAt i := by
  refine State.recordAt_visit_of_notMem fun hmem => ?_
  obtain ⟨j, hj⟩ := List.mem_iff_getElem?.mp hmem
  obtain ⟨hlength, -⟩ := List.getElem?_eq_some_iff.mp hi
  rw [List.getElem?_take] at hj
  split at hj
  next hjk => exact List.nodup_iff_getElem?_ne_getElem?.mp (s.nodup_visited origin) j k hjk hlength (hj.trans hi.symm)
  next => cases hj

theorem State.visit_succ_stretched (hi : (s.visited origin)[k]? = some i) (hr : s.recordAt i = some r)
    (hpolicy : unknown = true ∨ r.holdPolicy = .stretch) :
    s.visit origin h unknown (k + 1) =
      (s.visit origin h unknown k).putRecord i (r.stretched h (s.td.now + BitVec.ofNat 32 h)) := by
  rw [State.visit_succ hi, State.treat_stretched ((State.recordAt_visit hi).trans hr) hpolicy]

theorem State.visit_succ_caughtUp (hh : h ≤ Config.holdMax) (hi : (s.visited origin)[k]? = some i) (hr : s.recordAt i = some r)
    (hpolicy : r.holdPolicy = .catchup) (hpos : r.PeriodsPos) (hd : r.dueWf .hold s.td.now = true)
    (hne : ∀ run phase remaining, r.timing ≠ .paused run phase remaining) :
    ((s.visit origin h false k).putRecord i (r.unparked s.td.now)).caughtUp (s.visit origin h false (k + 1)) i
      (s.td.now + BitVec.ofNat 32 h) := by
  rw [State.visit_succ hi]
  exact State.caughtUp_treat hh ((State.recordAt_visit hi).trans hr) hpolicy hpos hd hne

/-- Visits under STRETCH alone neither post nor reach the outputs. -/
theorem State.visit_unposted
    (hpolicy : ∀ i ∈ s.visited origin, ∀ r, s.recordAt i = some r → unknown = true ∨ r.holdPolicy = .stretch) (k : Nat) :
    (s.visit origin h unknown k).nq = s.nq ∧ (s.visit origin h unknown k).ou = s.ou := by
  induction k with
  | zero => exact ⟨rfl, rfl⟩
  | succ k ih =>
    cases hi : (s.visited origin)[k]? with
    | none => rwa [State.visit_beyond hi]
    | some i =>
      cases hr : s.recordAt i with
      | none =>
        have hsame : s.visit origin h unknown (k + 1) = s.visit origin h unknown k := by
          rw [State.visit_succ hi]
          simp only [State.treat, State.recordAt_visit hi, hr]
        rwa [hsame]
      | some r => rwa [State.visit_succ_stretched hi hr (hpolicy i (List.mem_of_getElem? hi) r hr)]

/-! ### The records after the last visit -/

/-- The part after the last visit. -/
abbrev State.lastVisit (s : State) (origin : ResumeOrigin) (h : Nat) (unknown : Bool) : State :=
  s.visit origin h unknown (s.visited origin).length

theorem State.lastVisit_eq_foldl :
    s.lastVisit origin h unknown = (s.visited origin).foldl (fun u i => u.treat s.td.now h unknown i) s := by
  rw [State.lastVisit, State.visit, List.take_length]

theorem State.recordAt_lastVisit_of_notMem (hi : i ∉ s.visited origin) :
    (s.lastVisit origin h unknown).recordAt i = s.recordAt i :=
  State.recordAt_visit_of_notMem (by rwa [List.take_length])

/-- No visit of another record changes what a record's own visit left. -/
theorem State.recordAt_lastVisit (hi : i ∈ s.visited origin) :
    ∃ u : State, u.recordAt i = s.recordAt i ∧
      (s.lastVisit origin h unknown).recordAt i = (u.treat s.td.now h unknown i).recordAt i := by
  obtain ⟨u, -, hslot, hfold⟩ := s.slots_foldl_of_mem (fun u i => u.treat s.td.now h unknown i)
    (fun u i => u.keeps_treat s.td.now h unknown i) (fun u i j => u.slots_treat_ne s.td.now h unknown i j)
    (s.nodup_visited origin) hi
  refine ⟨u, congrArg Slot.record hslot, ?_⟩
  rw [State.lastVisit_eq_foldl]
  exact congrArg Slot.record hfold

theorem State.recordAt_lastVisit_stretched (hi : i ∈ s.visited origin) (hr : s.recordAt i = some r)
    (hpolicy : unknown = true ∨ r.holdPolicy = .stretch) :
    (s.lastVisit origin h unknown).recordAt i = some (r.stretched h (s.td.now + BitVec.ofNat 32 h)) := by
  obtain ⟨u, hu, hlast⟩ := State.recordAt_lastVisit (h := h) (unknown := unknown) hi
  rw [hlast, State.treat_stretched (hu.trans hr) hpolicy, State.recordAt_putRecord_self]

theorem State.recordAt_lastVisit_ahead (hi : i ∈ s.visited origin) (hr : s.recordAt i = some r)
    (hpolicy : r.holdPolicy = .catchup) (ht : (r.unparked s.td.now).timing = .active run phase start due)
    (hne : due - (s.td.now + BitVec.ofNat 32 h) ≠ 0) (hmsb : (due - (s.td.now + BitVec.ofNat 32 h)).msb = false) :
    (s.lastVisit origin h false).recordAt i = some (r.unparked s.td.now) := by
  obtain ⟨u, hu, hlast⟩ := State.recordAt_lastVisit (h := h) (unknown := false) hi
  rw [hlast]
  refine State.recordAt_treat_ahead (hu.trans hr) hpolicy ht fun hpast => ?_
  rw [isPast_iff_signed, hmsb] at hpast
  exact hpast.elim hne Bool.false_ne_true

end

/-! ### The end of reconciliation (R169) -/

/-- The part when Now has moved on, RESUMED has been posted, the ignored-edge set has been emptied and RUN has begun. -/
def State.reconciled (s : State) (info : SystemInfo) (newNow : Time) : State :=
  { s with
    td := { s.td with now := newNow, divider := 0 }
    lu := { s.lu with ignored := 0 }
    nq := { s.nq with entries := postSystemEntry s.nq.entries info newNow }
    pr := { s.pr with power := .run } }

section
variable {s : State}

theorem State.endReconciliation_eq (hpwarn : s.pr.pwarn = false) (origin : ResumeOrigin) (h : Nat) (newNow : Time) (n : Nat) :
    s.endReconciliation origin h newNow n = s.reconciled (.resumed h origin s.lu.ignored n) newNow := by
  unfold State.endReconciliation
  exact State.enterRun_eq hpwarn

/-- With PWARN withdrawn reconciliation is its visits and then its end. -/
theorem State.reconcile_eq (hpwarn : s.pr.pwarn = false) (origin : ResumeOrigin) (h : Nat) (unknown : Bool) :
    s.reconcile origin h unknown =
      (s.lastVisit origin h unknown).reconciled (.resumed h origin s.lu.ignored (s.visited origin).length)
        (s.td.now + BitVec.ofNat 32 h) := by
  have hkeep := s.keeps_visit origin h unknown (s.visited origin).length
  unfold State.reconcile
  dsimp only
  rw [← State.lastVisit_eq_foldl, State.endReconciliation_eq (by rw [hkeep.pr, hpwarn]), hkeep.lu]

end
end Sys2Proof.Machine
end

-- ==== Reconciliation: PWARN withdrawn and RESUME ====
section
/-! SUPPORT. What the invariants give of the records that reconciliation visits, and how PWARN withdrawn and RESUME lead to it (R154,
R164, R166). -/

namespace Sys2Proof.Machine

/-! ### The records that are visited -/

section
variable {s : State} {i : Fin 256} {r : Record} {n : Time} {run : Run} {phase : Phase} {start due remaining : Time}

/-- In PARKED no due is at Now, as in HOLD. -/
theorem RecordOf.dueWf_hold_of_parked (h : r.dueWf .parked n = true) : r.dueWf .hold n = true :=
  r.dueWf_tighten h fun _ _ _ _ ht => ((r.dueWf_active_iff ht).mp h).2 (.inr rfl)

/-- No power state asks more of a PARKED record's Remaining than another. -/
theorem RecordOf.dueWf_hold_of_parkedRecord {p : PowerState} (ht : r.timing = .parked run phase remaining)
    (h : r.dueWf p n = true) : r.dueWf .hold n = true :=
  (r.dueWf_parked_iff ht).mpr ((r.dueWf_parked_iff ht).mp h)

theorem State.parkedAt_eq_some : s.parkedAt i = some remaining ↔
    ∃ r run phase, s.recordAt i = some r ∧ r.timing = .parked run phase remaining := by
  unfold State.parkedAt
  split
  · split <;> simp_all
  · simp_all

theorem State.mem_parkedOrder : i ∈ s.visited .resume ↔ s.parkedAt i ≠ none := by
  rw [State.visited, s.mem_ordered, Option.isSome_iff_ne_none]

theorem State.mem_parkedOrder_of_parked (hr : s.recordAt i = some r) (ht : r.timing = .parked run phase remaining) :
    i ∈ s.visited .resume := by
  rw [State.mem_parkedOrder, State.parkedAt_eq_some.mpr ⟨r, run, phase, hr, ht⟩]
  exact nofun

theorem State.mem_dueOrder_of_active (hr : s.recordAt i = some r) (ht : r.timing = .active run phase start due) :
    i ∈ s.visited .brownout :=
  s.mem_dueOrder.mpr ⟨due, s.dueAt_eq_some.mpr ⟨r, run, phase, start, hr, ht⟩⟩

theorem State.length_ordered (s : State) (dist : Fin 256 → Option Time) :
    (s.ordered dist).length = ((List.finRange 256).filter fun i => (dist i).isSome).length :=
  List.length_insertionSort _ _

/-- Of two PARKED records the one with the smaller Remaining is visited first, then the one of higher Priority, then the one of the
lower slot (R166). -/
theorem State.pairwise_parkedOrder (s : State) :
    (s.visited .resume).Pairwise fun i j => ∀ ri rj : Time, s.parkedAt i = some ri → s.parkedAt j = some rj →
      ri < rj ∨ (ri = rj ∧ (s.priorityAt j < s.priorityAt i ∨ (s.priorityAt j = s.priorityAt i ∧ i < j))) := by
  refine ((s.pairwise_ordered s.parkedAt).and (s.nodup_ordered s.parkedAt)).imp ?_
  rintro i j ⟨hkeys, hne⟩ ri rj hi hj
  have hval : i.val ≠ j.val := fun e => hne (Fin.ext e)
  simp only [s.precedes_iff, hi, hj, Option.getD_some] at hkeys
  rw [BitVec.lt_def, ← BitVec.toNat_inj, Fin.lt_def]
  omega

end

/-! ### PWARN withdrawn (R154) -/

/-- The part with PWARN withdrawn and noted. -/
def State.pwarnOver (s : State) : State := { s with pr := { s.pr with pwarn := false } }

theorem State.exec_pwarnWithdrawn_reconciled {s : State} (h : s.steady .parked) :
    exec .pwarnWithdrawn s = .next ((s.pwarnOver.lastVisit .brownout s.td.holdCounter false).reconciled
      (.resumed s.td.holdCounter .brownout s.lu.ignored s.dueOrder.length) (s.td.now + BitVec.ofNat 32 s.td.holdCounter)) := by
  rw [State.exec_pwarnWithdrawn_parked h]
  exact congrArg _ (State.reconcile_eq (s := s.pwarnOver) rfl .brownout s.td.holdCounter false)

/-- Settles O49: brownout reconciliation is the chain of its visits, each under the record's Hold policy. -/
theorem brownoutReconciles : Obligations.BrownoutReconciles := by
  refine ⟨fun s p hsteady hp => ?noted, fun s hsteady => ?parked⟩
  case noted =>
    rw [show exec .pwarnWithdrawn s = execPwarnWithdrawn s from rfl, execPwarnWithdrawn, s.event_of_steady hsteady]
    dsimp only
    split
    next hparked => exact absurd (hsteady.2.1.symm.trans hparked) hp
    next => rfl
  case parked =>
    intro h newNow info
    have hkeep := s.pwarnOver.keeps_visit .brownout s.td.holdCounter false (s.pwarnOver.visited .brownout).length
    refine ⟨_, _, State.exec_pwarnWithdrawn_reconciled hsteady, congrArg (fun p : PowerUnit => { p with power := .run }) hkeep.pr,
      congrArg (fun td : Timebase => { td with now := newNow, divider := 0 }) hkeep.td,
      congrArg (fun lu : LineUnit => { lu with ignored := 0 }) hkeep.lu, hkeep.hp, hkeep.routes, hkeep.threshold, rfl, hkeep.gens,
      fun i hdue => ?still, fun i r run phase start due hr ht => ?moved, fun hall => ?unposted, fun hw hd => ?visits⟩
    case still =>
      refine State.recordAt_lastVisit_of_notMem (s := s.pwarnOver) fun hmem => ?_
      obtain ⟨due, hdue'⟩ := s.mem_dueOrder.mp hmem
      cases hdue.symm.trans hdue'
    case moved =>
      have hmem := State.mem_dueOrder_of_active (s := s.pwarnOver) hr ht
      refine ⟨fun hpolicy => ?_, fun hpolicy hne hmsb => ?_⟩
      · exact r.stretched_active ht _ newNow ▸ State.recordAt_lastVisit_stretched (s := s.pwarnOver) hmem hr (.inr hpolicy)
      · have hun := r.unparked_active ht s.td.now
        exact (State.recordAt_lastVisit_ahead (s := s.pwarnOver) hmem hr hpolicy (hun.symm ▸ ht) hne hmsb).trans (congrArg some hun)
    case unposted =>
      obtain ⟨hnq, hou⟩ := State.visit_unposted (s := s.pwarnOver) (origin := .brownout) (h := s.td.holdCounter) (unknown := false)
        (fun i hi r hr => .inr (hall i r hr fun hnone => by
          obtain ⟨due, hdue⟩ := s.mem_dueOrder.mp hi
          cases hnone.symm.trans hdue)) (s.pwarnOver.visited .brownout).length
      exact ⟨congrArg (fun q : NotificationQueue => postSystemEntry q.entries info newNow) hnq, hou⟩
    case visits =>
      obtain ⟨htable, hcounter, -⟩ := s.duesWf_iff.mp hd
      refine ⟨s.pwarnOver.visit .brownout s.td.holdCounter false, rfl, fun k i r run phase start due hi hr ht => ⟨fun hpolicy => ?_,
        fun hpolicy => ?_⟩, rfl⟩
      · exact r.stretched_active ht _ newNow ▸ State.visit_succ_stretched (s := s.pwarnOver) hi hr (.inr hpolicy)
      · have hcaught := State.visit_succ_caughtUp (s := s.pwarnOver) (origin := .brownout) hcounter hi hr hpolicy
          (State.recordsWf.periodsPos hw i r hr) (RecordOf.dueWf_hold_of_parked (hsteady.2.1 ▸ htable i r hr))
          fun _ _ _ ht' => nomatch ht.symm.trans ht'
        have hmeets := State.recordAt_visit (s := s.pwarnOver) (origin := .brownout) (h := s.td.holdCounter) (unknown := false) hi
        rwa [r.unparked_active ht, State.putRecord_same (hmeets.trans hr)] at hcaught

/-! ### RESUME (R164) -/

section
variable {s : State} {outage : BitVec 32} {h : Nat} {unknown : Bool}

theorem State.resumeRequest_badField (hne : outage ≠ unknownOutage) (hlong : Config.holdMax < outage.toNat) :
    s.resumeRequest outage = ⟨s, .badField, []⟩ := by
  simp only [State.resumeRequest, hne, hlong, refuse, if_true, if_false]

/-- RESUME reconciles with the outage it carries; UNKNOWN is an outage of 0 with every record under STRETCH. -/
theorem State.resumeRequest_eq (hcarried : (outage = unknownOutage ∧ h = 0 ∧ unknown = true) ∨
      (outage.toNat ≤ Config.holdMax ∧ h = outage.toNat ∧ unknown = false)) :
    s.resumeRequest outage = ⟨s.reconcile .resume h unknown, .accepted, []⟩ := by
  rcases hcarried with ⟨rfl, rfl, rfl⟩ | ⟨hle, rfl, rfl⟩
  · rfl
  · have hne : outage ≠ unknownOutage := by
      rintro rfl
      exact absurd hle (by decide)
    simp only [State.resumeRequest, hne, Nat.not_lt.mpr hle, if_false]

theorem State.refusal_resume (hp : s.pr.power = .recovered) (hpwarn : s.pr.pwarn = false) : s.refusal .resume = none := by
  simp [State.refusal, hp, hpwarn]

/-- With the frame ended the port after an answer is the answer's alone. -/
theorem State.answer_eq_answering {u : State} (hframe : u.hp.frame = none) (seq : Byte) (st : Status) (body : List Byte) :
    u.answer seq st body = u.answering seq st body := by
  simp only [State.answer, State.answering, answered, hframe]

/-- The state that an accepted RESUME of `h` ticks leaves. -/
def State.resumed (s : State) (seq : Byte) (h : Nat) (unknown : Bool) : State :=
  ((s.frameOver.lastVisit .resume h unknown).reconciled
    (.resumed h .resume s.lu.ignored ((List.finRange 256).filter fun i => (s.parkedAt i).isSome).length)
    (s.td.now + BitVec.ofNat 32 h)).answering seq .accepted []

theorem State.exec_resume {seq : Byte} (hready : s.ready .recovered seq) (hpwarn : s.pr.pwarn = false)
    (hcarried : (outage = unknownOutage ∧ h = 0 ∧ unknown = true) ∨
      (outage.toNat ≤ Config.holdMax ∧ h = outage.toNat ∧ unknown = false)) :
    exec (.resume seq outage) s = .next (s.resumed seq h unknown) := by
  have hkeep := s.frameOver.keeps_visit .resume h unknown (s.frameOver.visited .resume).length
  have hframe : (s.frameOver.lastVisit .resume h unknown).hp.frame = none := congrArg HostPort.frame hkeep.hp
  rw [show exec (.resume seq outage) s = s.request seq .resume fun u => u.resumeRequest outage from rfl,
    s.request_of_ready hready, State.serve_admitted _ (State.refusal_resume (s := s.endFrame) hready.1.2.1 hpwarn),
    State.resumeRequest_eq hcarried, State.reconcile_eq (s := s.endFrame) hpwarn, State.visited, State.length_ordered,
    State.answer_eq_answering]
  · rfl
  · exact hframe

end

/-- Settles O50: an accepted RESUME is the chain of its visits, each from the instant that the record's Hold policy gives. -/
theorem resumeReconciles : Obligations.ResumeReconciles := by
  intro s seq outage hready hpwarn
  refine ⟨fun hne hlong => ?field, fun h unknown hcarried => ?accepted⟩
  case field =>
    exact State.exec_of_admitted (owner := fun u => u.resumeRequest outage) (fun _ => rfl) hready
      (State.refusal_resume hready.1.2.1 hpwarn) (State.resumeRequest_badField (s := s.endFrame) hne hlong)
  case accepted =>
    intro newNow period parked info
    have hperiod (r : Record) (phase : Phase) : period r phase = ticks (r.period phase) := by cases phase <;> rfl
    have hkeep := s.frameOver.keeps_visit .resume h unknown (s.frameOver.visited .resume).length
    refine ⟨_, _, State.exec_resume hready hpwarn hcarried, rfl, congrArg (fun p : PowerUnit => { p with power := .run }) hkeep.pr,
      congrArg (fun td : Timebase => { td with now := newNow, divider := 0 }) hkeep.td,
      congrArg (fun lu : LineUnit => { lu with ignored := 0 }) hkeep.lu, hkeep.routes, hkeep.threshold, rfl, hkeep.gens,
      fun i hparked => ?still, fun i r run phase remaining hr ht => ?moved, fun hall => ?unposted, fun hw hd => ?visits⟩
    case still =>
      exact State.recordAt_lastVisit_of_notMem (s := s.frameOver) fun hmem => State.mem_parkedOrder.mp hmem hparked
    case moved =>
      have hmem := State.mem_parkedOrder_of_parked (s := s.frameOver) hr ht
      rw [hperiod]
      refine ⟨fun hpolicy => ?_, fun hknown hpolicy hne hmsb => ?_⟩
      · exact r.stretched_parked ht h newNow ▸ State.recordAt_lastVisit_stretched (s := s.frameOver) hmem hr hpolicy
      · subst hknown
        have hun := r.unparked_parked ht s.td.now
        exact (State.recordAt_lastVisit_ahead (s := s.frameOver) hmem hr hpolicy (congrArg RecordOf.timing hun) hne hmsb).trans
          (congrArg some hun)
    case unposted =>
      obtain ⟨hnq, hou⟩ := State.visit_unposted (s := s.frameOver) (origin := .resume) (h := h) (unknown := unknown)
        (fun i hi r hr => hall.imp_right fun hstretch => hstretch i r hr (State.mem_parkedOrder.mp hi))
        (s.frameOver.visited .resume).length
      exact ⟨congrArg (fun q : NotificationQueue => postSystemEntry q.entries info newNow) hnq, hou⟩
    case visits =>
      obtain ⟨htable, -, -⟩ := s.duesWf_iff.mp hd
      have hheld : h ≤ Config.holdMax := by
        rcases hcarried with ⟨-, rfl, -⟩ | ⟨hle, rfl, -⟩
        · exact Nat.zero_le _
        · exact hle
      refine ⟨s.frameOver.visited .resume, s.frameOver.visit .resume h unknown, s.nodup_ordered _, fun i => State.mem_parkedOrder,
        s.pairwise_parkedOrder, rfl, fun k i r run phase remaining hi hr ht => ?_, rfl⟩
      intro dueFrom
      have hfrom (instant : Time) : dueFrom (instant + remaining) = (s.frameOver.visit .resume h unknown k).putRecord i
          { r with timing := .active run phase (instant + remaining - ticks (r.period phase)) (instant + remaining) } := by
        rw [← hperiod]
      refine ⟨fun hpolicy => ?_, fun hknown hpolicy => ?_⟩
      · rw [hfrom, ← r.stretched_parked ht h newNow]
        exact State.visit_succ_stretched (s := s.frameOver) hi hr hpolicy
      · subst hknown
        rw [hfrom, ← r.unparked_parked ht s.td.now]
        exact State.visit_succ_caughtUp (s := s.frameOver) hheld hi hr hpolicy (State.recordsWf.periodsPos hw i r hr)
          (RecordOf.dueWf_hold_of_parkedRecord ht (htable i r hr)) fun _ _ _ ht' => nomatch ht.symm.trans ht'

end Sys2Proof.Machine
end

-- ==== Retention: DISCARD and CLEAR ====
section
/-! SUPPORT. What DISCARD and CLEAR empty, and how RUN begins after a DISCARD with PWARN withdrawn and asserted (R154, R165, R186). -/

namespace Sys2Proof.Machine

/-! ### Erasing markers (R158 step 2, R165) -/

section
variable (p : PowerUnit)

/-- Erasing both markers leaves no valid bank. -/
theorem PowerUnit.invalidate_both :
    (p.invalidate 0).invalidate 1 =
      { p with store := p.store.map fun b => { b with marker := false }, banks := Vector.replicate 2 none } := by
  have hstore : ((p.invalidate 0).invalidate 1).store = p.store.map fun b => { b with marker := false } := by
    refine Vector.ext fun n hn => ?_
    match n with
    | 0 => exact (PowerUnit.store_invalidate_of_ne _ 1 (by decide)).trans ((p.store_invalidate 0).trans (by simp))
    | 1 =>
      have hkept : (p.invalidate 0).store[(1 : Fin 2)] = p.store[(1 : Fin 2)] := p.store_invalidate_of_ne 0 (by decide)
      refine (PowerUnit.store_invalidate _ 1).trans ?_
      rw [hkept]
      simp
  have hbanks : ((p.invalidate 0).invalidate 1).banks = Vector.replicate 2 none := by
    refine Vector.ext fun n hn => ?_
    match n with
    | 0 => exact (PowerUnit.banks_invalidate_of_ne _ 1 (by decide)).trans ((p.banks_invalidate 0).trans (by simp))
    | 1 => exact (PowerUnit.banks_invalidate _ 1).trans (by simp)
  rw [← hstore, ← hbanks]
  rfl

/-- Erasing the marker of an invalid bank changes nothing. -/
theorem PowerUnit.invalidate_of_invalid {b : Fin 2} (hmarker : p.store[b].marker = false) (hbank : p.banks[b] = none) :
    p.invalidate b = p := by
  have hslot : ({ p.store[b] with marker := false } : Bank) = p.store[b] := by rw [← hmarker]
  have hstore : p.store.set b { p.store[b] with marker := false } = p.store := by rw [hslot]; exact Vector.set_getElem_self _
  have hbanks : p.banks.set b none = p.banks := by rw [← hbank]; exact Vector.set_getElem_self _
  rw [PowerUnit.invalidate, hstore, hbanks]

end

/-! ### The emptied part -/

/-- The table, the routes, the lines' configuration, the ignored-edge set and the safe state are emptied. -/
def State.emptied (s : State) : State :=
  { s with
    slots := s.slots.map fun slot => ⟨slot.gen, none⟩
    lu := { lines := s.lu.lines.map fun line => { line with config := ⟨.none, 0⟩ }, ignored := 0 }
    ou := { s.ou with routes := Vector.replicate 16 ⟨.static false, false⟩, safe := none } }

/-- The part that DISCARD empties, before RUN begins (R165). -/
def State.discarded (s : State) : State :=
  { s.emptied with
    nq := { s.nq with entries := postSystemEntry s.nq.entries (.coldStart .discarded) s.td.now }
    pr := { s.pr with store := s.pr.store.map fun b => { b with marker := false }, banks := Vector.replicate 2 none } }

section
variable {s : State} {c : CheckpointInFlight}

theorem State.discardImage_eq (s : State) : s.discardImage = ⟨s.discarded.enterRun, .done, []⟩ := by
  unfold State.discardImage
  rw [PowerUnit.invalidate_both]
  rfl

/-- With PWARN asserted and no valid bank RUN gives way to HOLD at once, with bank 0 as the target of its save (R154, R158). -/
theorem State.enterRun_held (hpwarn : s.pr.pwarn = true) (hnone : s.pr.checkpoint = none) (hbanks : ∀ b : Fin 2, s.pr.banks[b] = none)
    (hmarker : s.pr.store[(0 : Fin 2)].marker = false) :
    s.enterRun =
      { s with
        td := { s.td with divider := 0, holdCounter := 0 }
        pr := { s.pr with power := .hold, save := some ⟨0, 1⟩ } } := by
  have htarget : s.pr.isTarget 0 1 := .inl ⟨hbanks 0, hbanks 1, rfl, rfl⟩
  have hrun : s.enterRun =
      State.enterHold { s with td := { s.td with divider := 0 }, pr := { s.pr with power := .run } } := if_pos hpwarn
  have hinvalid := congrArg (fun p : PowerUnit => ({ s with
    td := { s.td with divider := 0, holdCounter := 0 }
    pr := { p with power := .hold, save := some ⟨0, 1⟩ } } : State)) (s.pr.invalidate_of_invalid hmarker (hbanks 0))
  have hhold := State.enterHold_targets
    (s := { s with td := { s.td with divider := 0 }, pr := { s.pr with power := .run } }) hnone htarget
  exact hrun.trans (hhold.trans hinvalid)

theorem State.discardImage_run (hpwarn : s.pr.pwarn = false) :
    s.discardImage =
      ⟨{ s.discarded with td := { s.td with divider := 0 }, pr := { s.discarded.pr with power := .run } }, .done, []⟩ := by
  rw [s.discardImage_eq, State.enterRun_eq (s := s.discarded) hpwarn]
  rfl

theorem State.discardImage_held (hpwarn : s.pr.pwarn = true) (hnone : s.pr.checkpoint = none) :
    s.discardImage =
      ⟨{ s.discarded with
          td := { s.td with divider := 0, holdCounter := 0 }
          pr := { s.discarded.pr with power := .hold, save := some ⟨0, 1⟩ } }, .done, []⟩ := by
  have hbanks (b : Fin 2) : s.discarded.pr.banks[b] = none := by simp [State.discarded]
  rw [s.discardImage_eq, State.enterRun_held (s := s.discarded) hpwarn hnone hbanks (by simp [State.discarded])]
  rfl

theorem State.refusal_discard (hp : s.pr.power = .recovered) : s.refusal .discard = none := by simp only [State.refusal, hp]

/-- CLEAR reports the number of records and whether it abandoned a checkpoint (R186). -/
theorem State.clearPart_eq (hnone : s.pr.checkpoint = none) :
    s.clearPart = ⟨{ s.emptied with nq := { entries := [], threshold := 0 } }, .done,
      bytes16 (BitVec.ofNat 16 ((List.finRange 256).filter fun i => (s.recordAt i).isSome).length) ++ [0]⟩ := by
  have hpr : ({ s.pr with checkpoint := none } : PowerUnit) = s.pr := by rw [← hnone]
  unfold State.clearPart
  simp only [hpr, hnone, s.length_slotsWhere_true, Option.isSome_none, Bool.false_eq_true, if_false]
  rfl

theorem State.clearPart_abandoned (hc : s.pr.checkpoint = some c) :
    s.clearPart = ⟨{ s.emptied with
        nq := { entries := [⟨.system (.checkpointAbandoned .clear), 1, s.td.now, s.td.now⟩], threshold := 0 }
        pr := { s.pr with checkpoint := none } }, .done,
      bytes16 (BitVec.ofNat 16 ((List.finRange 256).filter fun i => (s.recordAt i).isSome).length) ++ [1]⟩ := by
  simp only [State.clearPart, s.length_slotsWhere_true, hc]
  rfl

end

/-- Settles O54: DISCARD empties the part and enters RUN, or HOLD through it, and CLEAR empties it with its queue. -/
theorem discardAndClearEmptyThePart : Obligations.DiscardAndClearEmptyThePart := by
  refine ⟨fun s seq hready hnone => ⟨fun hpwarn => ?discarded, fun hpwarn => ?held⟩,
    fun seq => refusedOutsideRun_of_request fun _ => rfl,
    fun s seq hready => ⟨fun hnone => ?cleared, fun c hc => ?abandoned⟩⟩
  case discarded =>
    exact State.exec_of_admitted (owner := State.discardImage) (fun _ => rfl) hready (State.refusal_discard hready.1.2.1)
      (State.discardImage_run (s := s.endFrame) hpwarn)
  case held =>
    exact State.exec_of_admitted (owner := State.discardImage) (fun _ => rfl) hready (State.refusal_discard hready.1.2.1)
      (State.discardImage_held (s := s.endFrame) hpwarn hnone)
  case cleared =>
    exact State.exec_of_owner (owner := State.clearPart) (fun _ => rfl) hready (State.clearPart_eq (s := s.endFrame) hnone)
  case abandoned =>
    exact State.exec_of_owner (owner := State.clearPart) (fun _ => rfl) hready (State.clearPart_abandoned (s := s.endFrame) hc)

end Sys2Proof.Machine
end

-- ==== The host port: the end of a frame ====
section
/-! SUPPORT. The end of a frame (R173): the frames that its tests 1 to 3 stop, bad frames (R174) and duplicates (R175). -/

namespace Sys2Proof.Machine

/-! ### The rows that end a frame -/

section
variable {s : State} {p : PowerState} (hsteady : s.steady p) {i : Instr} {seq code : Byte} {body rest : List Byte}
include hsteady

theorem State.exec_starting_eq_judge (h : (s.frameIgnored || s.frameMetLoading) = true) :
    exec (.starting (seq :: rest)) s = .next (s.judge seq id) := by
  change execStarting (seq :: rest) s = _
  simp only [execStarting, s.event_of_steady hsteady, h, if_true]

theorem State.exec_frameError_eq_judge {reason : FrameDefect} (h : frameDefect (seq :: rest) = some reason) :
    exec (.frameError (seq :: rest)) s = .next (s.judge seq fun u => u.holdResponse ⟨seq, .frameError, [reason.code]⟩) := by
  change execFrameError (seq :: rest) s = _
  simp only [execFrameError, s.event_of_steady hsteady, h]

theorem State.exec_duplicate_eq_judge (h : s.frameIgnored = true ∨ s.frameMetLoading = true ∨ s.hp.lastSeq = some seq) :
    exec (.duplicate seq code body) s = .next (s.judge seq State.replay) := by
  change execDuplicate seq code body s = _
  simp only [execDuplicate, s.event_of_steady hsteady, Bool.or_eq_true, decide_eq_true_eq, or_assoc, if_pos h]

theorem State.exec_badRequest_eq_judge (h : requestLength code ≠ some body.length) :
    exec (.badRequest seq code body) s =
      .next (s.judge seq fun u => if u.hp.lastSeq = some seq then u.replay else u.answer seq .badRequest []) := by
  change execBadRequest seq code body s = _
  simp only [execBadRequest, s.event_of_steady hsteady, if_neg h]

/-- The end of a frame with a whole byte is judged, when test 1 or 3 of R173 stops the frame. -/
theorem State.exec_eq_judge (hstops : s.frameIgnored = true ∨ s.frameMetLoading = true) (hseq : frameSeq i = some seq)
    (hwf : wellFormed i = true) : ∃ good : State → State, exec i s = .next (s.judge seq good) := by
  cases i with
  | powerOn | supplyLost | rstnAsserted | rstnReleased | loadingComplete | pwarnAsserted | pwarnWithdrawn | holdSaveComplete
  | checkpointComplete | tick | expiry | hrstPulseEnd | candidateAccepted | ignoredFrame | emptyFrame | sampledLevelChange
  | csnFallingEdge | storeContentsLost => cases hseq
  | starting bytes =>
    obtain ⟨rest, rfl⟩ := List.head?_eq_some_iff.mp hseq
    exact ⟨id, State.exec_starting_eq_judge hsteady (Bool.or_eq_true_iff.mpr hstops)⟩
  | frameError bytes =>
    obtain ⟨rest, rfl⟩ := List.head?_eq_some_iff.mp hseq
    rw [wellFormed, Bool.and_eq_true_iff] at hwf
    obtain ⟨reason, hreason⟩ := Option.isSome_iff_exists.mp hwf.2
    exact ⟨_, State.exec_frameError_eq_judge hsteady hreason⟩
  | duplicate =>
    cases hseq
    exact ⟨_, State.exec_duplicate_eq_judge hsteady (or_assoc.mp (.inl hstops))⟩
  | badRequest _ code body =>
    cases hseq
    rw [wellFormed, Bool.and_eq_true_iff] at hwf
    exact ⟨_, State.exec_badRequest_eq_judge hsteady (bne_iff_ne.mp hwf.2)⟩
  | _ => cases hseq; exact ⟨_, s.event_of_steady hsteady fun u => u.frameServed _ _ _⟩

end

/-! ### Frames that are not judged further (R173 tests 1 to 3) -/

section
variable {s : State} {seq : Byte} (good : State → State)

theorem State.judge_ignored (hignored : s.frameIgnored = true) : s.judge seq good = s.frameOver := by
  simp only [State.judge, hignored, if_true]
  rfl

theorem State.judge_metLoading (hignored : s.frameIgnored = false) (hmet : s.frameMetLoading = true) :
    s.judge seq good = s.holding ⟨seq, .starting, []⟩ := by
  simp only [State.judge, hignored, hmet, if_true, Bool.false_eq_true, if_false]
  rfl

end

/-- Settles O8: a frame that test 1 or 3 of R173 stops is judged without its owner. -/
theorem framesNotJudged : Obligations.FramesNotJudged := by
  intro s p hsteady
  have hignored {f : Frame} (hf : s.hp.frame = some f) (hi : f.ignored = true) : s.frameIgnored = true := by
    simp only [State.frameIgnored, hf, Option.any_some, hi]
  refine ⟨fun f i seq hf hi hseq hwf => ?begunTooSoon, fun f hf hi => ?ignored, s.event_of_steady hsteady State.endFrame,
    fun i seq hnot hmet hseq hwf => ?loading⟩
  case begunTooSoon =>
    obtain ⟨good, hexec⟩ := State.exec_eq_judge hsteady (.inl (hignored hf hi)) hseq hwf
    rw [hexec, State.judge_ignored good (hignored hf hi)]
  case ignored =>
    refine (s.event_of_steady hsteady fun u => if u.frameIgnored then u.endFrame else u).trans ?_
    rw [if_pos (hignored hf hi)]
    rfl
  case loading =>
    have hnotIgnored : s.frameIgnored = false := by
      rw [State.frameIgnored]
      cases hf : s.hp.frame <;> simp_all
    have hmetLoading : s.frameMetLoading = true := by
      rcases hmet with hp | hmet
      · simp [State.frameMetLoading, hsteady.2.1, hp]
      · simp only [State.frameMetLoading, hmet, Bool.or_true]
    obtain ⟨good, hexec⟩ := State.exec_eq_judge hsteady (.inr hmetLoading) hseq hwf
    rw [hexec, State.judge_metLoading good hnotIgnored hmetLoading]

/-! ### Bad frames (R174) -/

section
variable {seq code len : Byte} {rest : List Byte}

theorem frameDefect_eq_length_iff : frameDefect (seq :: code :: len :: rest) = some .length ↔ 32 < len.toNat := by
  simp only [frameDefect]
  split_ifs <;> simp_all

theorem frameDefect_eq_short_iff :
    frameDefect (seq :: code :: len :: rest) = some .short ↔ len.toNat ≤ 32 ∧ rest.length < len.toNat + 1 := by
  simp only [frameDefect]
  split_ifs <;> simp_all

theorem frameDefect_eq_crc_iff :
    frameDefect (seq :: code :: len :: rest) = some .crc ↔
      len.toNat ≤ 32 ∧ ∃ c : Byte, rest[len.toNat]? = some c ∧ c ≠ crc8 (seq :: code :: len :: rest.take len.toNat) := by
  simp only [frameDefect]
  split_ifs <;> simp_all

end

/-- Settles O6: LEN, the number of bytes and the CRC byte decide the reason in that order, and a frame shorter than LEN is SHORT. -/
theorem badFrameReported : Obligations.BadFrameReported := by
  refine ⟨fun bytes => ?reason, fun s p seq rest d hsteady hp hclean hd => ?held⟩
  case reason =>
    match bytes with
    | [] | [_] | [_, _] => simp [frameDefect]
    | seq :: code :: len :: rest =>
      rw [frameDefect_eq_length_iff, frameDefect_eq_short_iff, frameDefect_eq_crc_iff]
      have hshort : rest.length + 1 + 1 + 1 < 4 + len.toNat ↔ rest.length < len.toNat + 1 := by omega
      exact ⟨by simp, by simp [hshort], by simp [Nat.add_comm 3]⟩
  case held =>
    have hpower : s.pr.power ≠ .loading := hsteady.2.1 ▸ hp
    rw [State.exec_frameError_eq_judge hsteady hd, s.judge_clean hclean hpower]
    cases d <;> rfl

/-! ### Duplicates (R175) -/

/-- Settles O7: under the last-executed SEQ a duplicate, a request and a bad request all end in the replay of R175. -/
theorem duplicateReplayed : Obligations.DuplicateReplayed := by
  intro s p seq code body r hsteady hp hclean hseq hresponse
  have hpower : s.pr.power ≠ .loading := hsteady.2.1 ▸ hp
  have hjudge (good : State → State) : s.judge seq good = good s.endFrame := s.judge_clean hclean hpower seq good
  have hdup : s.endFrame.hp.lastSeq = some seq := hseq
  have hreplay : s.endFrame.replay = s.holding r := by
    rw [State.replay, show s.endFrame.hp.lastResponse = some r from hresponse]
    rfl
  refine ⟨?duplicate, fun i hi => ?request, fun hlen => ?badRequest⟩
  case duplicate => rw [State.exec_duplicate_eq_judge hsteady (.inr (.inr hseq)), hjudge, hreplay]
  case request =>
    obtain ⟨owner, hexec⟩ := exec_eq_request hi
    rw [hexec, State.request, s.event_of_steady hsteady, hjudge, if_pos hdup, hreplay]
  case badRequest => rw [State.exec_badRequest_eq_judge hsteady hlen, hjudge, if_pos hdup, hreplay]

end Sys2Proof.Machine
end

-- ==== The host port: the bytes of frames ====
section
/-! SUPPORT. The bytes of frames: what SDO carries from the fall of CSN (R170, R172), and the reading of a frame that carries a request
(R171, R180, R181). -/

namespace Sys2Proof

/-! ### Fields read back from their bytes (R170) -/

theorem word16_bytes16 (x : BitVec 16) : word16 (x.extractLsb' 8 8) (x.extractLsb' 0 8) = x :=
  (BitVec.extractLsb'_append_extractLsb'_eq_extractLsb' rfl).trans BitVec.extractLsb'_eq_self

theorem word24_bytes24 (x : BitVec 24) : word24 (x.extractLsb' 16 8) (x.extractLsb' 8 8) (x.extractLsb' 0 8) = x := by
  have hhigh : x.extractLsb' 16 8 ++ x.extractLsb' 8 8 = x.extractLsb' 8 16 :=
    BitVec.extractLsb'_append_extractLsb'_eq_extractLsb' rfl
  rw [word24, hhigh]
  exact (BitVec.extractLsb'_append_extractLsb'_eq_extractLsb' rfl).trans BitVec.extractLsb'_eq_self

theorem word32_bytes32 (x : BitVec 32) :
    word32 (x.extractLsb' 24 8) (x.extractLsb' 16 8) (x.extractLsb' 8 8) (x.extractLsb' 0 8) = x := by
  have hhigh : x.extractLsb' 24 8 ++ x.extractLsb' 16 8 = x.extractLsb' 16 16 :=
    BitVec.extractLsb'_append_extractLsb'_eq_extractLsb' rfl
  have hupper : x.extractLsb' 16 16 ++ x.extractLsb' 8 8 = x.extractLsb' 8 24 :=
    BitVec.extractLsb'_append_extractLsb'_eq_extractLsb' rfl
  rw [word32, hhigh, hupper]
  exact (BitVec.extractLsb'_append_extractLsb'_eq_extractLsb' rfl).trans BitVec.extractLsb'_eq_self

theorem handleOf_bytesHandle (h : Handle) : handleOf (BitVec.ofNat 8 h.slot.val) h.gen = h := by
  have hslot : (BitVec.ofNat 8 h.slot.val).toNat = h.slot.val := Nat.mod_eq_of_lt h.slot.isLt
  simp only [handleOf, hslot]

theorem decodeHandle_bytesHandle (f : Handle → Instr) (h : Handle) : decodeHandle f (bytesHandle h) = some (f h) := by
  simp only [decodeHandle, bytesHandle, handleOf_bytesHandle]

/-! ### Requests read back from their fields (R180, R181) -/

section
variable {i : Instr} {seq code : Byte} {body : List Byte}

/-- The longest body is MODIFY's, of 19 bytes (R180). -/
theorem length_le_of_requestFields (h : requestFields i = some (seq, code, body)) : body.length ≤ 19 := by
  cases i with
  | powerOn | supplyLost | rstnAsserted | rstnReleased | loadingComplete | pwarnAsserted | pwarnWithdrawn | holdSaveComplete
  | checkpointComplete | tick | expiry | hrstPulseEnd | candidateAccepted | ignoredFrame | emptyFrame | starting | frameError
  | duplicate | badRequest | sampledLevelChange | csnFallingEdge | storeContentsLost => cases h
  | _ => cases h; exact Nat.le_of_ble_eq_true rfl

theorem decodeRequest_of_requestFields (h : requestFields i = some (seq, code, body)) : decodeRequest seq code body = some i := by
  cases i with
  | powerOn | supplyLost | rstnAsserted | rstnReleased | loadingComplete | pwarnAsserted | pwarnWithdrawn | holdSaveComplete
  | checkpointComplete | tick | expiry | hrstPulseEnd | candidateAccepted | ignoredFrame | emptyFrame | starting | frameError
  | duplicate | badRequest | sampledLevelChange | csnFallingEdge | storeContentsLost => cases h
  | nop | status | clear | setTick | groupStart | groupStop | groupPause | groupContinue | setLine | safe | release | fetch | setAttn
  | checkpoint | discard => cases h; rfl
  | retire | query | start | stop | restart | pause | continueRecord | renew | leave | unbind =>
    cases h
    exact decodeHandle_bytesHandle _ _
  | define | find | modify | join | bind | route | resume =>
    cases h
    refine congrArg some ?_
    simp only [word16_bytes16, word24_bytes24, word32_bytes32, handleOf_bytesHandle]

/-! ### Frames read back (R171) -/

/-- A frame of at most 32 body bytes is good, whatever follows it. -/
theorem decodeFrame_frameBytes (hlen : body.length ≤ 32) (extra : List Byte) :
    decodeFrame (frameBytes seq code body ++ extra) = (decodeRequest seq code body).getD (.badRequest seq code body) := by
  let len : Byte := BitVec.ofNat 8 body.length
  have htoNat : len.toNat = body.length := Nat.mod_eq_of_lt (by omega)
  let rest := body ++ crc8 (seq :: code :: len :: body) :: extra
  have hframe : frameBytes seq code body ++ extra = seq :: code :: len :: rest := by
    simp [frameBytes, rest, len]
  have htake : rest.take len.toNat = body := by rw [htoNat, List.take_left]
  have hgood : frameDefect (seq :: code :: len :: rest) = none := by
    simp [frameDefect, htoNat, hlen, rest]
  simp only [hframe, decodeFrame, hgood, htake]

end

/-- Settles O5: a request's fields make a good frame, and its CODE and body are read as the request. -/
theorem decodeEncodedRequest : Obligations.DecodeEncodedRequest := by
  intro i bytes extra h
  obtain ⟨⟨seq, code, body⟩, hfields, rfl⟩ := Option.map_eq_some_iff.mp h
  have hlen := length_le_of_requestFields hfields
  rw [decodeFrame_frameBytes (hlen.trans (by decide)), decodeRequest_of_requestFields hfields, Option.getD_some]

end Sys2Proof

namespace Sys2Proof.Machine

/-! ### The fall of CSN (R170, R172) -/

/-- At the fall of CSN a frame begins, which may be ignored (R170). -/
theorem State.exec_csnFallingEdge {s : State} {p : PowerState} (hsteady : s.steady p) (hframe : s.hp.frame = none) (soon : Bool) :
    exec (.csnFallingEdge soon) s =
      .next { s with hp := { s.hp with frame := some ⟨soon, p == .loading, if soon then [] else s.hp.held.bytes⟩ } } := by
  change execCsnFallingEdge soon s = _
  simp only [execCsnFallingEdge, s.event_of_steady hsteady, hframe, hsteady.2.1]

/-- Settles O9: the statement's status byte is the code R179 gives, so that its front is that of the held response's bytes. -/
theorem csnFallBeginsFrame : Obligations.CsnFallBeginsFrame := by
  refine ⟨fun x y z h => ⟨rfl, rfl, rfl, rfl⟩, fun s p soon hsteady hframe => ?_⟩
  intro status front sdo t
  have hstatus : status = s.hp.held.status.code := by
    simp only [status]
    cases s.hp.held.status <;> rfl
  have hsdo : sdo = if soon then [] else s.hp.held.bytes := by
    simp only [sdo, front, hstatus]
    rfl
  refine ⟨?falls, fun n => ⟨?before, ?within⟩⟩
  case falls => rw [State.exec_csnFallingEdge hsteady hframe, ← hsdo]
  case before => simp only [State.sdoByte, hframe, Option.map_none, ite_self]
  case within => simp only [State.sdoByte, t, hsteady.1, if_true, Option.map_some]

end Sys2Proof.Machine
end

-- ==== The host port: QUERY, NOP and STATUS ====
section
/-! SUPPORT. The bodies of the responses to QUERY and STATUS, item by item at their offsets (R180, R182, R185). -/

namespace Sys2Proof.Machine

/-- An accepted request that every power state but LOADING executes (R150). -/
theorem State.exec_of_always {s u : State} {p : PowerState} {c : Instr} {seq : Byte} {owner : State → Answer} {st : Status}
    {body : List Byte} (hc : ∀ s : State, exec c s = s.request seq .always owner) (hready : s.ready p seq)
    (howner : owner s.endFrame = ⟨u.endFrame, st, body⟩) : exec c s = .next (u.answering seq st body) :=
  State.exec_of_admitted hc hready (s.refusal_always (hready.1.2.1 ▸ hready.2.1)) howner

/-! ### QUERY's presence set (R182) -/

theorem getLsbD_presenceBit (b : Bool) {n : Nat} (hn : n < 16) (k : Nat) :
    (if b then 1#16 <<< n else 0).getLsbD k = (b && decide (n = k)) := by
  cases b with
  | false => simp
  | true => rw [if_pos rfl, ← BitVec.twoPow_eq, BitVec.getLsbD_twoPow, decide_eq_true hn]

/-- Which fields of R4 a record has, in the order of the presence set's bits (R182). -/
def RecordOf.fieldsPresent (r : Record) : List Bool :=
  let timed : Prop := r.timing.state = .running ∨ r.timing.state = .lapsed
  let stopped : Prop := r.timing.state = .paused ∨ r.timing.state = .parked
  [r.timing.state ≠ .idle, stopped, r.kind = .cadence ∨ r.kind = .window, r.kind = .cadence, r.cyclesLeft.isSome, timed, timed,
    timed ∨ stopped, r.pending.periodA.isSome, r.pending.periodB.isSome, r.pending.repeatCount.isSome, r.trigger.isSome,
    r.group.isSome, r.kind = .supervise ∨ r.kind = .window]

/-- One of a list's flags, sought by its place: the form in which a union of bits holds them. -/
theorem any_zipIdx_eq_getD (l : List Bool) (n k : Nat) :
    ((l.zipIdx n).any fun f => f.1 && decide (f.2 = n + k)) = l.getD k false := by
  induction l generalizing n k with
  | nil => rfl
  | cons b l ih =>
    rw [List.zipIdx_cons, List.any_cons]
    cases k with
    | zero =>
      have hlater : ((l.zipIdx (n + 1)).any fun f => f.1 && decide (f.2 = n)) = false := by
        refine List.any_eq_false.mpr fun f hf => ?_
        have hplace : f.2 ≠ n := Nat.ne_of_gt (List.le_snd_of_mem_zipIdx hf)
        simp [hplace]
      simp [hlater]
    | succ k => simpa [Nat.add_right_comm, Nat.add_assoc] using ih (n + 1) k

section
variable (r : Record)

theorem RecordOf.getLsbD_presence (k : Nat) : r.presence.getLsbD k = r.fieldsPresent.getD k false := by
  have hphase : (r.timing != .idle) = decide (r.timing.state ≠ .idle) := by
    cases r.timing with
    | active run => cases run <;> rfl
    | _ => rfl
  have hperiodB : r.kind.hasPeriodB = decide (r.kind = .cadence ∨ r.kind = .window) := by cases r.kind <;> rfl
  have hrepeat : r.kind.hasRepeat = decide (r.kind = .cadence) := by cases r.kind <;> rfl
  have hmiss : r.kind.supervises = decide (r.kind = .supervise ∨ r.kind = .window) := by cases r.kind <;> rfl
  rw [← any_zipIdx_eq_getD _ 0, RecordOf.presence]
  simp only [BitVec.getLsbD_or, getLsbD_presenceBit, Nat.reduceLT, hphase, hperiodB, hrepeat, hmiss, RecordOf.fieldsPresent]
  cases r.timing with
  | active run => cases run <;> simp [Timing.state, Bool.or_assoc]
  | _ => simp [Timing.state, Bool.or_assoc]

theorem RecordOf.presence_lt : r.presence.toNat < 2 ^ 14 := by
  refine Nat.lt_pow_two_of_testBit _ fun k hk => ?_
  rw [BitVec.testBit_toNat, r.getLsbD_presence, List.getD_eq_default _ _ hk]

end

/-! ### QUERY's body (R182) -/

@[simp] theorem Timing.length_queryBytes_fst (t : Timing) (now : Time) : (t.queryBytes now).1.length = 2 := by
  cases t <;> rfl

@[simp] theorem Timing.length_queryBytes_snd (t : Timing) (now : Time) : (t.queryBytes now).2.length = 11 := by
  cases t <;> rfl

/-- Bytes 43 to 45 of QUERY's body: the Trigger and the Group, each 0 where it is absent (R182). -/
def RecordOf.triggerAndGroup (r : Record) : List Byte :=
  (match r.trigger with
    | some t => triggerBytes t
    | none => [0, 0]) ++ [BitVec.ofNat 8 ((r.group.map (·.val)).getD 0)]

@[simp] theorem RecordOf.length_triggerAndGroup (r : Record) : r.triggerAndGroup.length = 3 := by
  unfold RecordOf.triggerAndGroup
  cases r.trigger <;> rfl

section
variable (r : Record) (h : Handle) (now : Time)

/-- QUERY's body, cut where R182 cuts it. -/
theorem RecordOf.queryBody_eq :
    r.queryBody h now =
      bytesHandle h ++ [r.kind.code, r.timing.code] ++ bytes16 r.presence ++ (r.timing.queryBytes now).1 ++
      (bytes24 r.periodA ++ bytes24 r.periodB ++ bytes16 r.repeatCount ++ bytes16 (r.cyclesLeft.getD 0)) ++
      (r.timing.queryBytes now).2 ++
      (bytes24 (r.pending.periodA.getD 0) ++ bytes24 (r.pending.periodB.getD 0) ++ bytes16 (r.pending.repeatCount.getD 0)) ++
      ([BitVec.ofNat 8 r.priority.val, r.notify.code, r.consequence.code, r.holdPolicy.code] ++ bytes16 r.tag) ++
      r.triggerAndGroup ++ [r.missCount, boolCode r.signal] := by
  simp only [RecordOf.queryBody, RecordOf.triggerAndGroup, List.append_assoc]
  cases r.trigger <;> cases r.group <;> rfl

/-- What stands at each offset of QUERY's body (R182). -/
theorem RecordOf.queryBody_items :
    (r.queryBody h now).length = 48 ∧
    (r.queryBody h now).take 4 = bytesHandle h ++ [r.kind.code, r.timing.code] ∧
    ((r.queryBody h now).drop 4).take 2 = bytes16 r.presence ∧
    ((r.queryBody h now).drop 6).take 2 = (r.timing.queryBytes now).1 ∧
    ((r.queryBody h now).drop 8).take 10 =
      bytes24 r.periodA ++ bytes24 r.periodB ++ bytes16 r.repeatCount ++ bytes16 (r.cyclesLeft.getD 0) ∧
    ((r.queryBody h now).drop 18).take 11 = (r.timing.queryBytes now).2 ∧
    ((r.queryBody h now).drop 29).take 8 =
      bytes24 (r.pending.periodA.getD 0) ++ bytes24 (r.pending.periodB.getD 0) ++ bytes16 (r.pending.repeatCount.getD 0) ∧
    ((r.queryBody h now).drop 37).take 6 =
      [BitVec.ofNat 8 r.priority.val, r.notify.code, r.consequence.code, r.holdPolicy.code] ++ bytes16 r.tag ∧
    ((r.queryBody h now).drop 43).take 3 = r.triggerAndGroup ∧
    (r.queryBody h now).drop 46 = [r.missCount, boolCode r.signal] := by
  rw [RecordOf.queryBody_eq]
  and_intros <;>
    simp [bytesHandle, bytes16, bytes24, List.take_append, List.drop_append, List.drop_of_length_le]

end

/-- Settles O15: QUERY's body cut at R182's offsets, and the numbers that R181 and R182 give for the items of each cut. -/
theorem queryBody : Obligations.QueryBody := by
  intro s p seq h r hready hr
  obtain ⟨hlength, hhead, hpresence, hphase, hperiods, htiming, hpending, hoptions, htrigger, htail⟩ :=
    r.queryBody_items h s.td.now
  refine ⟨r.queryBody h s.td.now, r.presence, ?answered, hlength, hhead.trans ?codes, hpresence, ?fields, ?timing, hperiods,
    hpending, hoptions.trans ?options, htrigger.trans ?trigger, htail⟩
  case answered =>
    refine State.exec_of_always (owner := fun u => u.query h) (fun _ => rfl) hready ?_
    simp only [State.query, s.recordOf_endFrame, hr, State.endFrame_td]
  case codes =>
    refine congrArg₂ (fun x y => bytesHandle h ++ [x, y]) ?kind ?state
    case kind => cases r.kind <;> rfl
    case state =>
      cases r.timing with
      | active run => cases run <;> rfl
      | _ => rfl
  case fields =>
    simp only [r.getLsbD_presence, RecordOf.fieldsPresent]
    simpa using r.presence_lt
  case timing =>
    cases ht : r.timing with
    | idle => exact ⟨by rw [hphase, ht]; rfl, by rw [htiming, ht]; rfl⟩
    | active run phase => exact ⟨by rw [hphase, ht]; rfl, by rw [htiming, ht]; rfl⟩
    | paused run phase | parked run phase =>
      refine ⟨?_, by rw [htiming, ht]; rfl⟩
      rw [hphase, ht]
      cases run <;> rfl
  case options =>
    refine congrArg₂ (fun x y => BitVec.ofNat 8 r.priority.val :: x :: y ++ bytes16 r.tag) ?notify
      (congrArg₂ (fun x y => [x, y]) ?consequence ?holdPolicy)
    case notify => rcases r.notify with ⟨_ | _, _ | _⟩ <;> rfl
    case consequence => cases r.consequence <;> rfl
    case holdPolicy => cases r.holdPolicy <;> rfl
  case trigger =>
    rw [RecordOf.triggerAndGroup]
    cases r.trigger with
    | none => rfl
    | some t =>
      obtain ⟨line, action⟩ := t
      cases action <;> rfl

/-! ### STATUS (R185) -/

@[simp] theorem length_causeBytes (c : Option Cause) : (causeBytes c).length = 3 := by
  rcases c with _ | ⟨_ | _⟩ <;> rfl

/-- Bytes 21 to 26 of STATUS's body: the checkpoint in flight (R185, log 13). -/
def PowerUnit.checkpointBytes (p : PowerUnit) : List Byte :=
  optional 5 (p.checkpoint.map fun c => [BitVec.ofNat 8 c.bank.val] ++ bytes32 c.generation)

/-- Bytes 27 to 33 of STATUS's body: the newest valid image (R185, log 13). -/
def PowerUnit.newestBytes (p : PowerUnit) : List Byte :=
  optional 6 (p.newest.map fun n => [BitVec.ofNat 8 n.1.val] ++ bytes32 n.2.generation ++ [n.2.origin.code])

section
variable (p : PowerUnit)

@[simp] theorem PowerUnit.length_checkpointBytes : p.checkpointBytes.length = 6 := by
  unfold PowerUnit.checkpointBytes
  cases p.checkpoint <;> rfl

@[simp] theorem PowerUnit.length_newestBytes : p.newestBytes.length = 7 := by
  unfold PowerUnit.newestBytes
  cases p.newest <;> rfl

end

section
variable (s : State)

/-- Bytes 6 to 15 of STATUS's body: the five counts of records (R185, log 13). -/
def State.countBytes : List Byte :=
  [RecordState.idle, .running, .paused, .lapsed, .parked].flatMap fun st => count16 (s.countState st)

/-- STATUS's body, cut between its items. -/
theorem State.statusBody_eq :
    s.statusBody =
      ([s.pr.power.code] ++ bytes32 s.td.now ++ [s.td.tickPeriod.code]) ++ s.countBytes ++ count16 s.nq.entries.length ++
      causeBytes s.ou.safe ++ s.pr.checkpointBytes ++ s.pr.newestBytes ++ [assertedCode s.pr.pwarn] := by
  simp [State.statusBody, State.countBytes, PowerUnit.checkpointBytes, PowerUnit.newestBytes]

/-- What stands at each offset of STATUS's body (log 13). -/
theorem State.statusBody_items :
    s.statusBody.length = 35 ∧
    s.statusBody.take 6 = [s.pr.power.code] ++ bytes32 s.td.now ++ [s.td.tickPeriod.code] ∧
    (s.statusBody.drop 6).take 10 = s.countBytes ∧
    (s.statusBody.drop 16).take 2 = count16 s.nq.entries.length ∧
    (s.statusBody.drop 18).take 3 = causeBytes s.ou.safe ∧
    (s.statusBody.drop 21).take 6 = s.pr.checkpointBytes ∧
    (s.statusBody.drop 27).take 7 = s.pr.newestBytes ∧
    s.statusBody.drop 34 = [assertedCode s.pr.pwarn] := by
  rw [State.statusBody_eq]
  and_intros <;>
    simp [State.countBytes, count16, bytes16, bytes32, List.take_append, List.drop_append, List.drop_of_length_le]

end

/-- Settles O11: NOP and STATUS pass in every power state but LOADING, and STATUS's body is cut at its items. -/
theorem nopAndStatusAnswered : Obligations.NopAndStatusAnswered := by
  intro s p seq hready
  obtain ⟨hlength, hhead, hcounts, hqueue, hsafe, hcheckpoint, hnewest, hpwarn⟩ := s.statusBody_items
  have hpower : s.pr.power = p := hready.1.2.1
  refine ⟨State.exec_of_always (owner := fun u => ⟨u, .done, []⟩) (fun _ => rfl) hready rfl, s.statusBody,
    State.exec_of_always (owner := fun u => ⟨u, .done, u.statusBody⟩) (fun _ => rfl) hready rfl, hlength, hhead.trans ?head,
    hcounts, hqueue, hsafe.trans ?safe, hcheckpoint.trans ?checkpoint, fun h0 h1 => hnewest.trans ?noImage,
    fun b c x hbc hb hother => hnewest.trans ?image, hpwarn⟩
  case head =>
    refine congrArg₂ (fun x y => [x] ++ bytes32 s.td.now ++ [y]) ?power ?tickPeriod
    case power => rw [hpower]; cases p <;> rfl
    case tickPeriod => cases s.td.tickPeriod <;> rfl
  case safe => rcases s.ou.safe with _ | ⟨_ | _⟩ <;> rfl
  case checkpoint =>
    rw [PowerUnit.checkpointBytes]
    cases s.pr.checkpoint <;> rfl
  case noImage =>
    rw [PowerUnit.newestBytes, PowerUnit.newest_eq_none h0 h1]
    rfl
  case image =>
    cases eq_otherBank_of_ne hbc.symm
    rw [PowerUnit.newestBytes, PowerUnit.newest_eq hb hother]
    refine congrArg (fun y => [1, BitVec.ofNat 8 b.val] ++ bytes32 x.generation ++ [y]) ?_
    cases x.origin <;> rfl

end Sys2Proof.Machine
end

-- ==== The machine: the command at the front, and what every command leaves alone ====
section
/-! SUPPORT. What a step with a command waiting runs, and that every command answers a next state with the queue of waiting commands and
the REFCLK clock as they were (log 4, log 6, log 7). -/

namespace Sys2Proof.Machine

/-- Settles O1: a step's one case split is on the queue of waiting commands. -/
theorem stepRunsFrontCommand : Obligations.StepRunsFrontCommand := by
  intro c s rest h
  unfold step
  rw [h]

/-- The model's own fields that only an idle step writes: the queue of waiting commands and the REFCLK clock. -/
def State.queueAndClock (s : State) : List Instr × Nat := (s.pending, s.refclk)

theorem State.queueAndClock_eq_iff {s t : State} :
    t.queueAndClock = s.queueAndClock ↔ t.pending = s.pending ∧ t.refclk = s.refclk := Prod.mk_inj

theorem State.Keeps.queueAndClock {s t : State} (h : s.Keeps t) : t.queueAndClock = s.queueAndClock :=
  State.queueAndClock_eq_iff.mpr ⟨h.pending, h.refclk⟩

section
variable (s : State)

/-! ### HOLD, RUN and reconciliation -/

theorem State.queueAndClock_enterHold : s.enterHold.queueAndClock = s.queueAndClock := by
  unfold State.enterHold
  dsimp only
  split <;> rfl

theorem State.queueAndClock_enterRun : s.enterRun.queueAndClock = s.queueAndClock := by
  unfold State.enterRun
  dsimp only
  split
  · exact State.queueAndClock_enterHold _
  · rfl

theorem State.queueAndClock_reconcile (origin : ResumeOrigin) (h : Nat) (unknown : Bool) :
    (s.reconcile origin h unknown).queueAndClock = s.queueAndClock :=
  (State.queueAndClock_enterRun _).trans
    (s.keeps_foldl _ (fun u i => u.keeps_treat s.td.now h unknown i) (s.visited origin)).queueAndClock

theorem State.queueAndClock_brownout : s.brownout.queueAndClock = s.queueAndClock := s.queueAndClock_reconcile .brownout _ false

/-! ### Edges -/

theorem State.queueAndClock_edge (l : Fin 8) : (s.edge l).queueAndClock = s.queueAndClock := by
  unfold State.edge
  split
  · exact (s.keeps_edged l).queueAndClock
  all_goals rfl

theorem State.queueAndClock_accept (l : Fin 8) (level : Bool) : (s.accept l level).queueAndClock = s.queueAndClock := by
  unfold State.accept
  dsimp only
  split
  · exact State.queueAndClock_edge _ l
  · rfl

/-! ### The end of a frame -/

theorem State.queueAndClock_replay : s.replay.queueAndClock = s.queueAndClock := by
  unfold State.replay
  split <;> rfl

section
variable {s} {seq : Byte}

theorem State.queueAndClock_judge {good : State → State} (hgood : ∀ u : State, (good u).queueAndClock = u.queueAndClock) :
    (s.judge seq good).queueAndClock = s.queueAndClock := by
  unfold State.judge
  split
  · rfl
  · split
    · rfl
    · exact hgood s.endFrame

theorem State.queueAndClock_frameServed {a : Admission} {owner : State → Answer}
    (howner : ∀ u : State, (owner u).state.queueAndClock = u.queueAndClock) :
    (s.frameServed seq a owner).queueAndClock = s.queueAndClock := by
  refine State.queueAndClock_judge fun u => ?_
  split
  · exact u.queueAndClock_replay
  · cases hr : u.refusal a with
    | some st => rw [u.serve_refused hr]; rfl
    | none => rw [u.serve_admitted hr]; exact howner u

end

/-! ### The owners of requests -/

theorem State.queueAndClock_resumeRequest (outage : BitVec 32) :
    (s.resumeRequest outage).state.queueAndClock = s.queueAndClock := by
  unfold State.resumeRequest
  split
  · exact s.queueAndClock_reconcile .resume 0 true
  · split
    · rfl
    · exact s.queueAndClock_reconcile .resume _ false

theorem State.queueAndClock_discardImage : s.discardImage.state.queueAndClock = s.queueAndClock :=
  State.queueAndClock_enterRun _

theorem State.queueAndClock_clearPart : s.clearPart.state.queueAndClock = s.queueAndClock := by
  unfold State.clearPart
  dsimp only
  split <;> rfl

end

/-! ### Commands -/

/-- A command that answers a next state from every state, with the queue of waiting commands and the REFCLK clock as they were. -/
def AnswersNext (run : State → Host.Outcome State Fault Refusal) : Prop :=
  ∀ s : State, ∃ t : State, run s = .next t ∧ t.queueAndClock = s.queueAndClock

/-- The expiries that precede an event write neither the queue of waiting commands nor the clock; a dark part answers the state it is
in. -/
theorem answersNext_event {f : State → State} (hf : ∀ u : State, (f u).queueAndClock = u.queueAndClock) :
    AnswersNext fun s => s.event f := by
  refine fun s => ⟨_, rfl, ?_⟩
  split
  · exact (hf s.settle).trans s.keeps_settle.queueAndClock
  · rfl

theorem answersNext_request {seq : Byte} {a : Admission} {owner : State → Answer}
    (howner : ∀ u : State, (owner u).state.queueAndClock = u.queueAndClock) : AnswersNext fun s => s.request seq a owner :=
  answersNext_event fun _ => State.queueAndClock_frameServed howner

theorem answersNext_supplyLost : AnswersNext execSupplyLost := answersNext_event fun _ => rfl

theorem answersNext_rstnAsserted : AnswersNext execRstnAsserted := answersNext_event fun _ => rfl

theorem answersNext_rstnReleased : AnswersNext execRstnReleased := answersNext_event fun _ => rfl

theorem answersNext_hrstPulseEnd : AnswersNext execHrstPulseEnd := answersNext_event fun _ => rfl

theorem answersNext_emptyFrame : AnswersNext execEmptyFrame := answersNext_event fun _ => rfl

theorem answersNext_storeContentsLost : AnswersNext execStoreContentsLost := by
  refine fun s => ⟨_, rfl, ?_⟩
  split <;> rfl

theorem answersNext_loadingComplete (levels : BitVec 8) : AnswersNext (execLoadingComplete levels) :=
  answersNext_event fun u => by
    split
    · dsimp only
      split
      · rfl
      · exact State.queueAndClock_enterRun _
    · rfl

theorem answersNext_pwarnAsserted : AnswersNext execPwarnAsserted :=
  answersNext_event fun u => by
    dsimp only
    split
    · exact State.queueAndClock_enterHold _
    · rfl

theorem answersNext_pwarnWithdrawn : AnswersNext execPwarnWithdrawn :=
  answersNext_event fun u => by
    dsimp only
    split
    · exact State.queueAndClock_brownout _
    · rfl

theorem answersNext_holdSaveComplete : AnswersNext execHoldSaveComplete :=
  answersNext_event fun u => by
    split
    · rfl
    · dsimp only
      split
      · rfl
      · exact State.queueAndClock_brownout _

theorem answersNext_checkpointComplete : AnswersNext execCheckpointComplete :=
  answersNext_event fun u => by
    split <;> rfl

theorem answersNext_tick : AnswersNext execTick :=
  answersNext_event fun u => by
    split <;> rfl

theorem answersNext_expiry : AnswersNext execExpiry := by
  refine fun s => ⟨_, rfl, ?_⟩
  split
  · split
    · exact (s.keeps_expire _ _).queueAndClock
    · rfl
  · rfl

theorem answersNext_candidateAccepted (l : Fin 8) : AnswersNext (execCandidateAccepted l) :=
  answersNext_event fun u => by
    split
    · rfl
    · rfl
    · exact u.queueAndClock_accept l _

theorem answersNext_sampledLevelChange (l : Fin 8) (level : Bool) : AnswersNext (execSampledLevelChange l level) :=
  answersNext_event fun u => by
    dsimp only
    split
    · rfl
    · split
      · rfl
      · split
        · exact u.queueAndClock_accept l level
        · split <;> rfl

theorem answersNext_csnFallingEdge (soon : Bool) : AnswersNext (execCsnFallingEdge soon) :=
  answersNext_event fun u => by
    split <;> rfl

theorem answersNext_ignoredFrame : AnswersNext execIgnoredFrame :=
  answersNext_event fun u => by
    split <;> rfl

theorem answersNext_starting (bytes : List Byte) : AnswersNext (execStarting bytes) :=
  answersNext_event fun u => by
    split
    · rfl
    · split
      · exact State.queueAndClock_judge fun _ => rfl
      · rfl

theorem answersNext_frameError (bytes : List Byte) : AnswersNext (execFrameError bytes) :=
  answersNext_event fun u => by
    split
    · exact State.queueAndClock_judge fun _ => rfl
    · rfl

theorem answersNext_duplicate (seq code : Byte) (body : List Byte) : AnswersNext (execDuplicate seq code body) :=
  answersNext_event fun u => by
    split
    · exact State.queueAndClock_judge State.queueAndClock_replay
    · rfl

theorem answersNext_badRequest (seq code : Byte) (body : List Byte) : AnswersNext (execBadRequest seq code body) :=
  answersNext_event fun u => by
    split
    · rfl
    · refine State.queueAndClock_judge fun v => ?_
      split
      · exact v.queueAndClock_replay
      · rfl

/-- Every command answers a next state and leaves the queue of waiting commands and the clock alone. -/
theorem answersNext_exec (c : Instr) : AnswersNext (exec c) := by
  cases c with
  | powerOn => exact fun _ => ⟨_, rfl, rfl⟩
  | storeContentsLost => exact answersNext_storeContentsLost
  | supplyLost => exact answersNext_supplyLost
  | rstnAsserted => exact answersNext_rstnAsserted
  | rstnReleased => exact answersNext_rstnReleased
  | hrstPulseEnd => exact answersNext_hrstPulseEnd
  | emptyFrame => exact answersNext_emptyFrame
  | loadingComplete levels => exact answersNext_loadingComplete levels
  | pwarnAsserted => exact answersNext_pwarnAsserted
  | pwarnWithdrawn => exact answersNext_pwarnWithdrawn
  | holdSaveComplete => exact answersNext_holdSaveComplete
  | checkpointComplete => exact answersNext_checkpointComplete
  | tick => exact answersNext_tick
  | expiry => exact answersNext_expiry
  | candidateAccepted l => exact answersNext_candidateAccepted l
  | sampledLevelChange l level => exact answersNext_sampledLevelChange l level
  | csnFallingEdge soon => exact answersNext_csnFallingEdge soon
  | ignoredFrame => exact answersNext_ignoredFrame
  | starting bytes => exact answersNext_starting bytes
  | frameError bytes => exact answersNext_frameError bytes
  | duplicate seq code body => exact answersNext_duplicate seq code body
  | badRequest seq code body => exact answersNext_badRequest seq code body
  | clear => exact answersNext_request State.queueAndClock_clearPart
  | modify seq h m => exact answersNext_request fun v => (v.keeps_modify h m).queueAndClock
  | renew seq h => exact answersNext_request fun v => (v.keeps_renew h).queueAndClock
  | safe => exact answersNext_request fun v => (v.keeps_enterSafe _ _).queueAndClock
  | resume seq outage => exact answersNext_request fun v => v.queueAndClock_resumeRequest outage
  | discard => exact answersNext_request State.queueAndClock_discardImage
  -- No branch of the other owners writes the queue of waiting commands or the clock.
  | nop | status | define | retire | query | find | setTick | start | stop | restart | pause | continueRecord | join | leave
  | groupStart | groupStop | groupPause | groupContinue | setLine | bind | unbind | route | release | fetch | setAttn | checkpoint =>
    refine answersNext_request fun v => ?_
    dsimp only [State.define, State.retire, State.query, State.find, State.setTick, State.startRecord, State.stopRecord,
      State.restartRecord, State.pauseRecord, State.continueRecord, State.joinGroup, State.leaveGroup, State.startGroup,
      State.stopGroup, State.pauseGroup, State.continueGroup, State.setLine, State.bindRecord, State.unbindRecord,
      State.routeOutput, State.releaseSafe, State.fetchEntry, State.setThreshold, State.takeCheckpoint]
    repeat' split
    all_goals rfl

/-- Settles O3, command by command: each is an event after the settled part, but for EXPIRY, POWER_ON and STORE_CONTENTS_LOST. -/
theorem everyCommandAnswersNext : Obligations.EveryCommandAnswersNext := by
  intro c s
  obtain ⟨t, hnext, hsame⟩ := answersNext_exec c s
  exact ⟨t, hnext, State.queueAndClock_eq_iff.mp hsame⟩

end Sys2Proof.Machine
end

-- ==== What becomes of a record: the operations ====
section
/-! SUPPORT. Everything an operation may make of a record, in one relation, and everything an operation in RUN, an expiry and a
reconciliation may make of the part: the basis of the invariants of records, modes and handles. -/

namespace Sys2Proof.Machine

-- One proof at a time, here and below: side by side, the stacks of the proofs' threads pass the memory that a compile has.
set_option Elab.async false

/-! ### One record -/

/-- What an expiry at `n` may make of a timing record (R40). -/
inductive RecordOf.Expires (r : Record) (n : Time) : Record → Prop
  | completed : r.Expires n { r with timing := .idle, cyclesLeft := none }
  | phaseB {run run' : Run} {start due : Time} (ht : r.timing = .active run .a start due) (hk : r.kind.hasPeriodB = true)
      (hrun : run' = run ∨ run' = .running) : r.Expires n { r with timing := .active run' .b n (n + ticks r.periodB) }
  | nextCycle {left : Option (BitVec 16)} (hk : r.kind = .cadence) (hleft : left.isSome = r.cyclesLeft.isSome)
      (hpos : left ≠ some 0) : r.Expires n (r.nextCycle left n)
  | faulted (hk : r.kind.supervises = true) :
      r.Expires n { r.phaseAFrom .lapsed n with missCount := satIncr r.missCount }

/-- What a request, an edge, an expiry or a reconciliation may make of a record that stands in a slot. -/
inductive RecordOf.Becomes : Record → Record → Prop
  | started (r : Record) (t : Time) : Becomes r (r.startedAt t)
  | stopped (r : Record) : Becomes r r.stopped
  | paused {r : Record} {run : Run} {phase : Phase} {start due : Time} (ht : r.timing = .active run phase start due)
      (remaining : Time) : Becomes r { r with timing := .paused run phase remaining }
  | continued {r : Record} {run : Run} {phase : Phase} {remaining : Time} (ht : r.timing = .paused run phase remaining)
      (t : Time) :
      Becomes r { r with timing := .active run phase (t + remaining - ticks (r.period phase)) (t + remaining) }
  | expired {r r' : Record} {run : Run} {phase : Phase} {start due : Time} (ht : r.timing = .active run phase start due)
      {n : Time} (h : r.Expires n r') : Becomes r r'
  | faulted {r : Record} {run : Run} {phase : Phase} {start due : Time} (ht : r.timing = .active run phase start due)
      (hk : r.kind.supervises = true) (t : Time) :
      Becomes r { r.phaseAFrom .lapsed t with missCount := satIncr r.missCount }
  | renewed {r : Record} {run : Run} {phase : Phase} {start due : Time} (ht : r.timing = .active run phase start due)
      (hk : r.kind.supervises = true) (t : Time) : Becomes r (r.phaseAFrom .running t)
  | grouped (r : Record) (group : Option (Fin 16)) : Becomes r { r with group := group }
  | triggered {r : Record} {trigger : Option Trigger}
      (h : r.kind.supervises = true ∨ ∀ tr, trigger = some tr → tr.action ≠ .renew) : Becomes r { r with trigger := trigger }
  | staged {r : Record} {b : ModifyBody} {m : ModifyItems} (hm : Machine.modifyItems r.kind b = some m)
      (hc : (m.consequence.any fun c => !r.kind.admitsConsequence c) = false) : Becomes r ((r.modifyItems m).stage m.timing)
  /-- The timing values are written at once and none of them is the period of a current phase (R19). -/
  | written {r : Record} {b : ModifyBody} {m : ModifyItems} (hm : Machine.modifyItems r.kind b = some m)
      (hc : (m.consequence.any fun c => !r.kind.admitsConsequence c) = false)
      (hidle : r.timing = .idle ∨ (∃ run phase start due, r.timing = .active run phase start due ∧ m.timing.period phase = none) ∨
        m.timing = Pending.none) : Becomes r ((r.modifyItems m).write m.timing)
  /-- The period of the current phase is written and Due moves with it (R20). -/
  | retimed {r : Record} {b : ModifyBody} {m : ModifyItems} (hm : Machine.modifyItems r.kind b = some m)
      (hc : (m.consequence.any fun c => !r.kind.admitsConsequence c) = false) {run : Run} {phase : Phase} {start due : Time}
      {p : Period} (ht : r.timing = .active run phase start due) (hp : m.timing.period phase = some p) :
      Becomes r { (r.modifyItems m).write m.timing with timing := .active run phase start (start + ticks p) }
  | stretched (r : Record) (h : Nat) (newNow : Time) : Becomes r (r.stretched h newNow)
  | unparked (r : Record) (frozen : Time) : Becomes r (r.unparked frozen)

section
variable {r r' : Record} {t : Time}

theorem RecordOf.becomes_start? (h : r.start? t = some r') : r.Becomes r' := by
  rcases r.start?_cases t with hnone | hsome
  · cases hnone.symm.trans h
  · cases hsome.symm.trans h
    exact .started r t

theorem RecordOf.becomes_restart? (h : r.restart? t = some r') : r.Becomes r' := by
  rcases r.restart?_cases t with hnone | hsome
  · cases hnone.symm.trans h
  · cases hsome.symm.trans h
    exact .started r t

theorem RecordOf.becomes_groupStart? {restartRunning : Bool} (h : r.groupStart? restartRunning t = some r') : r.Becomes r' := by
  unfold RecordOf.groupStart? at h
  split at h
  · exact becomes_restart? h
  · exact becomes_start? h

theorem RecordOf.becomes_stop? (h : r.stop? = some r') : r.Becomes r' := by
  unfold RecordOf.stop? at h
  split at h <;> cases h
  all_goals exact .stopped r

theorem RecordOf.becomes_pause? {remaining : Time} (h : r.pause? t = some (r', remaining)) : r.Becomes r' := by
  unfold RecordOf.pause? at h
  split at h
  next ht => cases h; exact .paused ht _
  next => cases h

theorem RecordOf.becomes_continue? {due : Time} (h : r.continue? t = some (r', due)) : r.Becomes r' := by
  unfold RecordOf.continue? at h
  split at h
  next ht => cases h; exact .continued ht t
  next => cases h

/-- The Due that an expired record had does not matter. -/
theorem RecordOf.Expires.of_due {run : Run} {phase : Phase} {start due due' : Time} (ht : r.timing = .active run phase start due)
    (h : r.Expires t r') : RecordOf.Expires { r with timing := .active run phase start due' } t r' := by
  cases h with
  | completed => exact .completed (r := { r with timing := .active run phase start due' })
  | phaseB hta hk hrun =>
    cases ht.symm.trans hta
    exact .phaseB (r := { r with timing := .active run .a start due' }) rfl hk hrun
  | nextCycle hk hleft hpos => exact .nextCycle (r := { r with timing := .active run phase start due' }) hk hleft hpos
  | faulted hk => exact .faulted (r := { r with timing := .active run phase start due' }) hk

end

/-! ### The entries that postings leave -/

section
variable {q : List Entry} {e : Entry}

/-- Every entry of a queue after a posting is of a subject that had one before, or of the posting's. -/
theorem subject_of_mem_mergeOrJoin {mine : Entry → Bool} {merge : Entry → Entry} {new : Entry}
    (hsubject : ∀ e, mine e = true → (merge e).subject = e.subject) (he : e ∈ mergeOrJoin mine merge new q) :
    e.subject = new.subject ∨ ∃ e' ∈ q, e'.subject = e.subject := by
  unfold mergeOrJoin at he
  split at he
  · obtain ⟨e', he', rfl⟩ := List.mem_map.mp he
    refine .inr ⟨e', he', ?_⟩
    split
    next hmine => exact (hsubject e' hmine).symm
    next => rfl
  · rcases List.mem_append.mp he with he | he
    · exact .inr ⟨e, he, rfl⟩
    · exact .inl (congrArg Entry.subject (List.mem_singleton.mp he))

theorem subject_of_mem_postOccurrence {h : Handle} {tag : BitVec 16} {pri : Fin 8} {k : Occurrence} {t : Time}
    (he : e ∈ postOccurrence q h tag pri k t) : e.subject = .inl h ∨ ∃ e' ∈ q, e'.subject = e.subject := by
  rw [postOccurrence_eq] at he
  exact subject_of_mem_mergeOrJoin (fun e _ => e.subject_mergeOccurrence tag pri k t) he

theorem subject_of_mem_postSystemEntry {info : SystemInfo} {t : Time} (he : e ∈ postSystemEntry q info t) :
    e.subject = .inr info.kind ∨ ∃ e' ∈ q, e'.subject = e.subject := by
  rw [postSystemEntry_eq] at he
  exact subject_of_mem_mergeOrJoin
    (fun e he => (e.subject_mergeSystem info t).trans ((e.isKind_iff info.kind).mp he).symm) he

end

/-! ### The part -/

/-- The record entries of `u` are of handles that had one in `s` or name a record there. -/
def State.Posts (s u : State) : Prop :=
  ∀ e ∈ u.nq.entries, ∀ h : Handle, e.subject = .inl h → (∃ e' ∈ s.nq.entries, e'.subject = .inl h) ∨ (s.recordOf h).isSome = true

/-- What operations on the records that stand in the table may make of the part: each record becomes what operations make of it, no slot
is filled or freed, and only records that stand are posted for. -/
structure State.Acts (s u : State) : Prop where
  keeps : s.Keeps u
  records : ∀ i, Option.Rel (Relation.ReflTransGen RecordOf.Becomes) (s.recordAt i) (u.recordAt i)
  posts : s.Posts u

section
variable {s u v : State} {i : Fin 256} {r r' : Record} {t : Time}

theorem State.Posts.of_entries (h : u.nq.entries = s.nq.entries) : s.Posts u :=
  fun e he _ hsub => .inl ⟨e, h ▸ he, hsub⟩

theorem State.recordOf_congr (hgen : ∀ i : Fin 256, u.slots[i].gen = s.slots[i].gen)
    (hrec : ∀ i, (u.recordAt i).isSome = (s.recordAt i).isSome) (h : Handle) :
    (u.recordOf h).isSome = (s.recordOf h).isSome := by
  have hslot := hrec h.slot
  unfold State.recordAt at hslot
  unfold State.recordOf
  rw [hgen]
  split
  · exact hslot
  · rfl

theorem isSome_of_rel {α : Type} {R : α → α → Prop} {x y : Option α} (h : Option.Rel R x y) : y.isSome = x.isSome := by
  cases h <;> rfl

theorem State.Acts.recordOf (h : s.Acts u) (handle : Handle) : (u.recordOf handle).isSome = (s.recordOf handle).isSome :=
  State.recordOf_congr h.keeps.gens (fun i => isSome_of_rel (h.records i)) handle

theorem rel_refl (x : Option Record) : Option.Rel (Relation.ReflTransGen RecordOf.Becomes) x x := by
  cases x with
  | none => exact .none
  | some r => exact .some .refl

/-- Operations that leave every record as it is. -/
theorem State.Acts.of_slots (hkeep : s.Keeps u) (hslots : u.slots = s.slots) (hposts : s.Posts u) : s.Acts u := by
  refine ⟨hkeep, fun i => ?_, hposts⟩
  have hrec : u.recordAt i = s.recordAt i := by simp only [State.recordAt, hslots]
  rw [hrec]
  exact rel_refl _

theorem State.Acts.refl (s : State) : s.Acts s := .of_slots (.refl s) rfl (.of_entries rfl)

theorem State.Acts.trans (h : s.Acts u) (h' : u.Acts v) : s.Acts v := by
  refine ⟨h.keeps.trans h'.keeps, fun i => ?_, fun e he handle hsub => ?_⟩
  · have hfirst := h.records i
    have hnext := h'.records i
    generalize s.recordAt i = x at hfirst
    generalize u.recordAt i = y at hfirst hnext
    generalize v.recordAt i = z at hnext
    cases hfirst with
    | none => exact hnext
    | some hxy => cases hnext with
      | some hyz => exact .some (hxy.trans hyz)
  · rcases h'.posts e he handle hsub with ⟨e', he', hsub'⟩ | hnames
    · exact h.posts e' he' handle hsub'
    · exact .inr (h.recordOf handle ▸ hnames)

/-! ### One slot rewritten -/

/-- The slots of `u` are those of `s` with this record written at slot `i`, and all else that operations keep is kept. -/
structure State.Rewritten (s : State) (i : Fin 256) (r' : Record) (u : State) : Prop where
  slots : u.slots = (s.putRecord i r').slots
  keeps : s.Keeps u
  posts : s.Posts u

theorem State.Rewritten.recordAt (h : s.Rewritten i r' u) (j : Fin 256) :
    u.recordAt j = if i = j then some r' else s.recordAt j := by
  rw [← s.recordAt_putRecord]
  simp only [State.recordAt, h.slots]

theorem State.Rewritten.acts (h : s.Rewritten i r' u) (hr : s.recordAt i = some r)
    (hbecomes : Relation.ReflTransGen RecordOf.Becomes r r') : s.Acts u := by
  refine ⟨h.keeps, fun j => ?_, h.posts⟩
  rw [h.recordAt]
  split
  next hij => rw [← hij, hr]; exact .some hbecomes
  next => exact rel_refl _

theorem State.rewritten_putRecord (s : State) (i : Fin 256) (r' : Record) : s.Rewritten i r' (s.putRecord i r') :=
  ⟨rfl, s.keeps_putRecord i r', .of_entries rfl⟩

/-- A record written over by what is rewritten in its slot does not matter. -/
theorem State.Rewritten.over_putRecord {r₁ : Record} (hr : s.recordAt i = some r) (h : (s.putRecord i r₁).Rewritten i r' u) :
    s.Rewritten i r' u := by
  refine ⟨by simpa using h.slots, (s.keeps_putRecord i r₁).trans h.keeps, fun e he handle hsub => ?_⟩
  have hsome : ∀ j, ((s.putRecord i r₁).recordAt j).isSome = (s.recordAt j).isSome := fun j => by
    rw [s.recordAt_putRecord]
    split
    next hij => rw [← hij, hr]; rfl
    next => rfl
  rw [← State.recordOf_congr (s.keeps_putRecord i r₁).gens hsome]
  exact h.posts e he handle hsub

theorem State.acts_putRecord (hr : s.recordAt i = some r) (h : r.Becomes r') : s.Acts (s.putRecord i r') :=
  (s.rewritten_putRecord i r').acts hr (.single h)

/-! ### Postings -/

theorem State.acts_post (hr : s.recordAt i = some r) (r' : Record) (k : Occurrence) (t : Time) : s.Acts (s.post i r' k t) := by
  refine .of_slots (s.keeps_post i r' k t) rfl fun e he handle hsub => ?_
  rcases subject_of_mem_postOccurrence he with hnew | ⟨e', he', hsame⟩
  · cases hnew.symm.trans hsub
    refine .inr ?_
    rw [s.recordOf_handleAt, hr]
    rfl
  · exact .inl ⟨e', he', hsame.trans hsub⟩

theorem State.posts_postSystem (s : State) (info : SystemInfo) (t : Time) : s.Posts (s.postSystem info t) := by
  intro e he handle hsub
  rcases subject_of_mem_postSystemEntry he with hnew | ⟨e', he', hsame⟩
  · cases hnew.symm.trans hsub
  · exact .inl ⟨e', he', hsame.trans hsub⟩

theorem State.acts_enterSafe (s : State) (c : Cause) (t : Time) : s.Acts (s.enterSafe c t) := by
  refine .of_slots (s.keeps_enterSafe c t) (s.slots_enterSafe c t) ?_
  unfold State.enterSafe
  split
  · exact .of_entries rfl
  · exact State.posts_postSystem { s with ou := { s.ou with safe := some c } } _ t

theorem State.acts_hostReset (s : State) (h : Handle) (t : Time) : s.Acts (s.hostReset h t) :=
  .of_slots (s.keeps_hostReset h t) rfl (State.posts_postSystem { s with ou := { s.ou with hrst := _ } } _ t)

theorem State.acts_applyConsequence (s : State) (h : Handle) (c : Consequence) (t : Time) : s.Acts (s.applyConsequence h c t) := by
  cases c with
  | notify => exact .refl s
  | safe => exact s.acts_enterSafe _ t
  | safeAndReset => exact (s.acts_enterSafe _ t).trans (State.acts_hostReset _ h t)

/-- A record written after operations that rewrote no slot. -/
theorem State.Acts.rewritten (h : s.Acts u) (hslots : u.slots = s.slots) (i : Fin 256) (r' : Record) :
    s.Rewritten i r' (u.putRecord i r') :=
  ⟨by simp [hslots], h.keeps.trans (u.keeps_putRecord i r'), h.posts⟩

/-! ### Expiries and faults -/

theorem State.rewritten_fault (hr : s.recordAt i = some r) (k : Occurrence) (t : Time) :
    s.Rewritten i { r.phaseAFrom .lapsed t with missCount := satIncr r.missCount } (s.fault i r k t) :=
  ((s.acts_post hr r k t).trans (State.acts_applyConsequence _ _ _ t)).rewritten (by simp) i _

theorem State.rewritten_completeRecord (hr : s.recordAt i = some r) (n : Time) :
    s.Rewritten i { r with timing := .idle, cyclesLeft := none } (s.completeRecord i r n) :=
  (s.acts_post hr r .complete n).rewritten rfl i _

/-- A posting that is made only when it is asked for. -/
theorem State.acts_post_if (hr : s.recordAt i = some r) (asked : Bool) (k : Occurrence) (n : Time) :
    s.Acts (if asked then s.post i r k n else s) ∧ (if asked then s.post i r k n else s).slots = s.slots := by
  cases asked with
  | true => exact ⟨s.acts_post hr r k n, rfl⟩
  | false => exact ⟨.refl s, rfl⟩

theorem State.rewritten_phaseAEnd (hr : s.recordAt i = some r) (run : Run) (n : Time) :
    s.Rewritten i { r with timing := .active run .b n (n + ticks r.periodB) } (s.phaseAEnd i r run n) := by
  obtain ⟨hacts, hslots⟩ := s.acts_post_if hr r.notify.phase .phase n
  exact hacts.rewritten hslots i _

theorem State.rewritten_cycleEnd (hr : s.recordAt i = some r) (hk : r.kind = .cadence) (n : Time) :
    ∃ r', r.Expires n r' ∧ s.Rewritten i r' (s.cycleEnd i r n) := by
  obtain ⟨hacts, hslots⟩ := s.acts_post_if hr r.notify.cycle .cycle n
  unfold State.cycleEnd
  dsimp only
  generalize (if r.notify.cycle then s.post i r .cycle n else s) = v at hacts hslots ⊢
  have hrv : v.recordAt i = some r := by rw [← hr]; simp only [State.recordAt, hslots]
  split
  next hleft => exact ⟨_, .nextCycle (left := none) hk (by rw [hleft]) nofun, hacts.rewritten hslots i _⟩
  next left hleft =>
    split
    · exact ⟨_, .completed, (hacts.trans (v.acts_post hrv r .complete n)).rewritten hslots i _⟩
    next hlast => exact ⟨_, .nextCycle hk (by rw [hleft]; rfl) (by simpa using hlast), hacts.rewritten hslots i _⟩

/-- An expiry leaves the part as it is, or makes of one timing record what an expiry makes of it (R40). -/
theorem State.expire_rewritten (s : State) (i : Fin 256) (n : Time) :
    (s.dueAt i = none ∧ s.expire i n = s) ∨ ∃ r run phase start due r', s.recordAt i = some r ∧
      r.timing = .active run phase start due ∧ r.Expires n r' ∧ s.Rewritten i r' (s.expire i n) := by
  unfold State.expire State.dueAt
  cases hr : s.recordAt i with
  | none => exact .inl ⟨rfl, rfl⟩
  | some r =>
    dsimp only
    cases ht : r.timing with
    | idle => exact .inl ⟨rfl, rfl⟩
    | paused => exact .inl ⟨rfl, rfl⟩
    | parked => exact .inl ⟨rfl, rfl⟩
    | active run phase start due =>
      refine .inr ⟨r, run, phase, start, due, ?_⟩
      cases hk : r.kind with
      | oneshot => exact ⟨_, rfl, ht, .completed, State.rewritten_completeRecord hr n⟩
      | supervise => exact ⟨_, rfl, ht, .faulted (by rw [hk]; rfl), State.rewritten_fault hr .miss n⟩
      | cadence =>
        cases phase with
        | a => exact ⟨_, rfl, ht, .phaseB ht (by rw [hk]; rfl) (.inr rfl), State.rewritten_phaseAEnd hr .running n⟩
        | b =>
          obtain ⟨r', hexpires, hrw⟩ := State.rewritten_cycleEnd hr hk n
          exact ⟨r', rfl, ht, hexpires, hrw⟩
      | window =>
        cases phase with
        | a => exact ⟨_, rfl, ht, .phaseB ht (by rw [hk]; rfl) (.inl rfl), State.rewritten_phaseAEnd hr run n⟩
        | b => exact ⟨_, rfl, ht, .faulted (by rw [hk]; rfl), State.rewritten_fault hr .miss n⟩

theorem State.acts_expire (s : State) (i : Fin 256) (n : Time) : s.Acts (s.expire i n) := by
  rcases s.expire_rewritten i n with ⟨-, hsame⟩ | ⟨r, run, phase, start, due, r', hr, ht, hexpires, hrw⟩
  · rw [hsame]; exact .refl s
  · exact hrw.acts hr (.single (.expired ht hexpires))

theorem State.acts_foldl {f : State → Fin 256 → State} (hf : ∀ (u : State) (i : Fin 256), u.Acts (f u i)) (l : List (Fin 256))
    (s : State) : s.Acts (l.foldl f s) := by
  induction l generalizing s with
  | nil => exact .refl s
  | cons i l ih => exact (hf s i).trans (ih _)

theorem State.acts_settle (s : State) : s.Acts s.settle := by
  unfold State.settle
  split
  · exact State.acts_foldl (fun u i => u.acts_expire i u.td.now) _ s
  · exact .refl s

/-! ### Renewals and edges -/

theorem State.acts_renewAt (hr : s.recordAt i = some r) (hk : r.kind.supervises = true) {res : State × RenewOutcome}
    (h : s.renewAt i r t = some res) : s.Acts res.1 := by
  unfold State.renewAt at h
  split at h
  next ht =>
    split at h <;> cases h
    · exact (State.rewritten_fault hr .early t).acts hr (.single (.faulted ht hk t))
    · exact State.acts_putRecord hr (.renewed ht hk t)
    · exact ((s.acts_post hr r .recovered t).rewritten rfl i _).acts hr (.single (.renewed ht hk t))
  next => cases h

theorem State.acts_edgeAction (s : State) (t : Time) (i : Fin 256) : s.Acts (s.edgeAction t i) := by
  unfold State.edgeAction
  split
  · exact .refl s
  next r hr =>
  split
  · exact .refl s
  split
  · cases h : r.start? t with
    | none => exact .refl s
    | some r' => exact State.acts_putRecord hr (RecordOf.becomes_start? h)
  · cases h : r.restart? t with
    | none => exact .refl s
    | some r' => exact State.acts_putRecord hr (RecordOf.becomes_restart? h)
  · split
    next hk =>
      cases h : s.renewAt i r t with
      | none => exact .refl s
      | some res => exact State.acts_renewAt hr hk h
    next => exact .refl s

theorem State.acts_edge (s : State) (hp : s.pr.power = .run) (l : Fin 8) : s.Acts (s.edge l) := by
  unfold State.edge
  rw [hp]
  exact State.acts_foldl (fun u i => u.acts_edgeAction s.td.now i) _ s

/-! ### Reconciliation (R166 to R168) -/

theorem State.acts_replayDue (i : Fin 256) (newNow : Time) (fuel : Nat) (s : State) : s.Acts (s.replayDue i newNow fuel) := by
  induction fuel generalizing s with
  | zero => exact .refl s
  | succ fuel ih =>
    rcases s.replayDue_succ_cases i newNow fuel with ⟨due, -, -, hturn⟩ | ⟨-, hover⟩
    · rw [hturn]; exact (s.acts_expire i due).trans (ih _)
    · rw [hover]; exact .refl s

theorem State.acts_treat (frozen : Time) (h : Nat) (unknown : Bool) (s : State) (i : Fin 256) :
    s.Acts (s.treat frozen h unknown i) := by
  unfold State.treat
  split
  · exact .refl s
  next r hr =>
  dsimp only
  split
  · exact State.acts_putRecord hr (.stretched r h _)
  · exact (State.acts_putRecord hr (.unparked r frozen)).trans (State.acts_replayDue i _ _ _)

end

end Sys2Proof.Machine
end

-- ==== What becomes of a record: the owners of requests ====
section
/-! SUPPORT. The requests whose owners only make of the standing records what operations make of them. -/

namespace Sys2Proof.Machine

set_option Elab.async false

section
variable {s : State} {r : Record}

/-- The record that a handle names stands in its slot. -/
theorem State.recordAt_of_recordOf {h : Handle} (hr : s.recordOf h = some r) : s.recordAt h.slot = some r :=
  ((s.recordOf_eq_some h r).mp hr).2

theorem State.acts_startRecord (s : State) (h : Handle) : s.Acts (s.startRecord h).state := by
  unfold State.startRecord
  split
  · exact .refl s
  next hr =>
  split
  · exact .refl s
  next hop => exact State.acts_putRecord (State.recordAt_of_recordOf hr) (RecordOf.becomes_start? hop)

theorem State.acts_stopRecord (s : State) (h : Handle) : s.Acts (s.stopRecord h).state := by
  unfold State.stopRecord
  split
  · exact .refl s
  next hr =>
  split
  · exact .refl s
  next hop => exact State.acts_putRecord (State.recordAt_of_recordOf hr) (RecordOf.becomes_stop? hop)

theorem State.acts_restartRecord (s : State) (h : Handle) : s.Acts (s.restartRecord h).state := by
  unfold State.restartRecord
  split
  · exact .refl s
  next hr =>
  split
  · exact .refl s
  next hop => exact State.acts_putRecord (State.recordAt_of_recordOf hr) (RecordOf.becomes_restart? hop)

theorem State.acts_pauseRecord (s : State) (h : Handle) : s.Acts (s.pauseRecord h).state := by
  unfold State.pauseRecord
  split
  · exact .refl s
  next hr =>
  split
  · exact .refl s
  next hop => exact State.acts_putRecord (State.recordAt_of_recordOf hr) (RecordOf.becomes_pause? hop)

theorem State.acts_continueRecord (s : State) (h : Handle) : s.Acts (s.continueRecord h).state := by
  unfold State.continueRecord
  split
  · exact .refl s
  next hr =>
  split
  · exact .refl s
  next hop => exact State.acts_putRecord (State.recordAt_of_recordOf hr) (RecordOf.becomes_continue? hop)

theorem State.acts_renew (s : State) (h : Handle) : s.Acts (s.renew h).state := by
  unfold State.renew
  split
  · exact .refl s
  next r hr =>
  split
  · exact .refl s
  next hk =>
  split
  · exact .refl s
  next hrenew => exact State.acts_renewAt (State.recordAt_of_recordOf hr) (by simpa using hk) hrenew

theorem State.acts_joinGroup (s : State) (h : Handle) (group : Byte) : s.Acts (s.joinGroup h group).state := by
  unfold State.joinGroup
  split
  · exact .refl s
  next r hr =>
  split
  · exact .refl s
  · exact State.acts_putRecord (State.recordAt_of_recordOf hr) (.grouped r _)

theorem State.acts_leaveGroup (s : State) (h : Handle) : s.Acts (s.leaveGroup h).state := by
  unfold State.leaveGroup
  split
  · exact .refl s
  next r hr => exact State.acts_putRecord (State.recordAt_of_recordOf hr) (.grouped r _)

theorem State.acts_bindRecord (s : State) (h : Handle) (line action : Byte) : s.Acts (s.bindRecord h line action).state := by
  unfold State.bindRecord
  split
  · exact .refl s
  next r hr =>
  split
  next a _ _ =>
    split
    · exact .refl s
    next hkind =>
      refine State.acts_putRecord (State.recordAt_of_recordOf hr) (.triggered ?_)
      by_cases ha : a = .renew
      · exact .inl (by simpa [ha] using hkind)
      · exact .inr fun tr htr => by cases htr; exact ha
  next => exact .refl s

theorem State.acts_unbindRecord (s : State) (h : Handle) : s.Acts (s.unbindRecord h).state := by
  unfold State.unbindRecord
  split
  · exact .refl s
  next r hr => exact State.acts_putRecord (State.recordAt_of_recordOf hr) (.triggered (.inr nofun))

/-! ### Groups -/

/-- A group request acts when its operation does (R92). -/
theorem State.acts_groupRequest (s : State) (g : Fin 16) {op : Record → Option Record}
    (hop : ∀ r r' : Record, op r = some r' → r.Becomes r') : s.Acts (s.groupRequest g op).state := by
  have hslot (i : Fin 256) : (s.groupRequest g op).state.slots[i] = s.slots[i].groupOp g op := by simp [State.groupRequest]
  refine ⟨⟨fun i => ?_, rfl, rfl, rfl, rfl, rfl, rfl, rfl, rfl, rfl, rfl⟩, fun i => ?_, .of_entries rfl⟩
  · rw [hslot]
    unfold Slot.groupOp
    split
    · split <;> rfl
    · rfl
  · unfold State.recordAt
    rw [hslot]
    unfold Slot.groupOp
    split
    next r hr =>
      rw [hr]
      split
      · cases hcase : op r with
        | none => exact rel_refl _
        | some r' => exact .some (.single (hop r r' hcase))
      · rw [hr]; exact rel_refl _
    next hr => exact rel_refl _

theorem State.acts_startGroup (s : State) (group option : Byte) : s.Acts (s.startGroup group option).state := by
  unfold State.startGroup
  split
  · exact s.acts_groupRequest _ fun _ _ h => RecordOf.becomes_groupStart? h
  · exact .refl s

theorem State.acts_stopGroup (s : State) (group : Byte) : s.Acts (s.stopGroup group).state := by
  unfold State.stopGroup
  split
  · exact s.acts_groupRequest _ fun _ _ h => RecordOf.becomes_stop? h
  · exact .refl s

theorem State.acts_pauseGroup (s : State) (group : Byte) : s.Acts (s.pauseGroup group).state := by
  unfold State.pauseGroup
  split
  · refine s.acts_groupRequest _ fun r r' h => ?_
    obtain ⟨⟨r', remaining⟩, hpause, rfl⟩ := Option.map_eq_some_iff.mp h
    exact RecordOf.becomes_pause? hpause
  · exact .refl s

theorem State.acts_continueGroup (s : State) (group : Byte) : s.Acts (s.continueGroup group).state := by
  unfold State.continueGroup
  split
  · refine s.acts_groupRequest _ fun r r' h => ?_
    obtain ⟨⟨r', due⟩, hcont, rfl⟩ := Option.map_eq_some_iff.mp h
    exact RecordOf.becomes_continue? hcont
  · exact .refl s

/-! ### MODIFY -/

/-- R20 at the record that R19 leaves: nothing, a moved Due, or an expiry at once. -/
theorem State.acts_retime {i : Fin 256} {b : ModifyBody} {m : ModifyItems} (hr : s.recordAt i = some r)
    (hm : Machine.modifyItems r.kind b = some m) (hc : (m.consequence.any fun c => !r.kind.admitsConsequence c) = false)
    (hparked : ∀ run phase remaining, r.timing ≠ .parked run phase remaining)
    (hpaused : m.timing ≠ Pending.none → r.timing.isPaused = false) :
    s.Acts (s.retime i ((r.modifyItems m).write m.timing) m.timing).1 := by
  unfold State.retime
  split
  next run phase start due ht =>
    have hactive : r.timing = .active run phase start due := ht
    split
    next hnone => exact State.acts_putRecord hr (.written hm hc (.inr (.inl ⟨run, phase, start, due, hactive, hnone⟩)))
    next p hsome =>
      have hretimed := RecordOf.Becomes.retimed hm hc hactive hsome
      split
      · exact State.acts_putRecord hr hretimed
      · have hrec := s.recordAt_putRecord_self i ((r.modifyItems m).write m.timing)
        rcases State.expire_rewritten (s.putRecord i ((r.modifyItems m).write m.timing)) i s.td.now with
          ⟨hnone, -⟩ | ⟨r₁, run₁, phase₁, start₁, due₁, r', hr₁, ht₁, hexpires, hrw⟩
        · exact absurd ht (State.dueAt_eq_none _ hnone hrec run phase start due)
        · cases hr₁.symm.trans hrec
          exact (hrw.over_putRecord hr).acts hr (.tail (.single hretimed) (.expired rfl (hexpires.of_due ht)))
  next hne =>
    refine State.acts_putRecord hr (.written hm hc ?_)
    cases ht : r.timing with
    | idle => exact .inl rfl
    | active run phase start due => exact absurd ht (hne run phase start due)
    | parked run phase remaining => exact absurd ht (hparked run phase remaining)
    | paused run phase remaining =>
      refine .inr (.inr (by_contra fun hv => ?_))
      have hstill := hpaused hv
      rw [ht] at hstill
      cases hstill

theorem State.acts_modify (hunparked : ∀ i, s.parkedAt i = none) (h : Handle) (b : ModifyBody) :
    s.Acts (s.modify h b).state := by
  unfold State.modify
  split
  · exact .refl s
  next r hr =>
  have hrec := State.recordAt_of_recordOf hr
  split
  · exact .refl s
  next m hm =>
  split
  · exact .refl s
  next hc =>
  rw [Bool.not_eq_true] at hc
  split
  · exact .refl s
  next hpaused =>
  show s.Acts (s.applyModify h.slot r m).1
  unfold State.applyModify
  split
  · exact State.acts_putRecord hrec (.staged hm hc)
  next himm =>
    refine State.acts_retime hrec hm hc (s.parkedAt_eq_none (hunparked h.slot) hrec) fun hv => ?_
    have himmediate : m.isImmediate = true := by simp [ModifyItems.isImmediate, hv, himm]
    rwa [himmediate, Bool.true_and, Bool.not_eq_true] at hpaused

end

end Sys2Proof.Machine
end

-- ==== Modes: what each power state implies ====
section
/-! SUPPORT. What the invariant of the power states asks in each of them (R6, R33, R113, R146, R151 to R154, R163), what the part may
change without it, and how HOLD, RUN and reconciliation meet it. -/

namespace Sys2Proof.Machine

set_option Elab.async false

section
variable {s u : State}

theorem State.modesWf_loading_iff (hp : s.pr.power = .loading) :
    s.modesWf ↔ s.pr.checkpoint = none ∧ s.nq.entries = [] ∧ s.pr.save = none ∧ s.hp.lastSeq = none := by
  simp [State.modesWf, hp]

theorem State.modesWf_recovered_iff (hp : s.pr.power = .recovered) :
    s.modesWf ↔ s.pr.checkpoint = none ∧ s.pr.save = none ∧ (∀ i, s.dueAt i = none) ∧
      ∀ e ∈ s.nq.entries, e.handle? = none := by
  simp [State.modesWf, hp]

theorem State.modesWf_run_iff (hp : s.pr.power = .run) :
    s.modesWf ↔ s.pr.save = none ∧ s.lu.ignored = 0 ∧ (s.supply = true → s.pr.pwarn = false) ∧
      ∀ i, s.parkedAt i = none := by
  simp [State.modesWf, hp, and_assoc]

theorem State.modesWf_hold_iff (hp : s.pr.power = .hold) :
    s.modesWf ↔ s.pr.checkpoint = none ∧ (s.supply = true → s.pr.save.isSome = true) ∧ ∀ i, s.parkedAt i = none := by
  simp [State.modesWf, hp]

theorem State.modesWf_parked_iff (hp : s.pr.power = .parked) :
    s.modesWf ↔ s.pr.checkpoint = none ∧ s.pr.save = none ∧ ∀ i, s.parkedAt i = none := by
  simp [State.modesWf, hp]

theorem State.modesWf.unparked (h : s.modesWf) (hr : s.pr.power ≠ .recovered) (hl : s.pr.power ≠ .loading) (i : Fin 256) :
    s.parkedAt i = none := by
  obtain ⟨-, -, -, -, -, -, hunparked⟩ := h
  exact hunparked hr hl i

/-! ### What no invariant of the records, the modes or the handles reads -/

/-- `u` is `s` but for what the power states, the records and the handles have no part in: entries may have gone, a level or a bank
may be held differently, the port may have answered outside LOADING, and the timebase, the lines and the pins are free. -/
structure State.Inert (s u : State) : Prop where
  slots : u.slots = s.slots := by rfl
  routes : u.ou.routes = s.ou.routes := by rfl
  entries : u.nq.entries ⊆ s.nq.entries := by exact fun _ h => h
  ignored : s.pr.power = .run → u.lu.ignored = s.lu.ignored := by exact fun _ => rfl
  pr : u.pr = { s.pr with pwarn := u.pr.pwarn, rstn := u.pr.rstn, banks := u.pr.banks } := by rfl
  pwarn : s.pr.power = .run → s.pr.pwarn = false → u.pr.pwarn = false := by exact fun _ h => h
  supply : u.supply = s.supply := by rfl
  lastSeq : s.pr.power = .loading → u.hp.lastSeq = s.hp.lastSeq := by exact fun _ => rfl

theorem State.Inert.power (h : s.Inert u) : u.pr.power = s.pr.power := by rw [h.pr]

theorem State.recordAt_of_slots (h : u.slots = s.slots) (i : Fin 256) : u.recordAt i = s.recordAt i := by
  simp only [State.recordAt, h]

theorem State.dueAt_of_slots (h : u.slots = s.slots) (i : Fin 256) : u.dueAt i = s.dueAt i := by
  simp only [State.dueAt, State.recordAt, h]

theorem State.parkedAt_of_slots (h : u.slots = s.slots) (i : Fin 256) : u.parkedAt i = s.parkedAt i := by
  simp only [State.parkedAt, State.recordAt, h]

theorem State.Inert.modesWf (h : s.Inert u) (hs : s.modesWf) : u.modesWf := by
  have hpower := h.power
  have hcheckpoint : u.pr.checkpoint = s.pr.checkpoint := by rw [h.pr]
  have hsave : u.pr.save = s.pr.save := by rw [h.pr]
  have hdue := State.dueAt_of_slots h.slots
  have hparked := State.parkedAt_of_slots h.slots
  cases hp : s.pr.power with
  | loading =>
    obtain ⟨hc, he, hv, hq⟩ := (State.modesWf_loading_iff hp).mp hs
    exact (State.modesWf_loading_iff (hpower.trans hp)).mpr
      ⟨hcheckpoint.trans hc, List.subset_nil.mp (he ▸ h.entries), hsave.trans hv, (h.lastSeq hp).trans hq⟩
  | recovered =>
    obtain ⟨hc, hv, hd, he⟩ := (State.modesWf_recovered_iff hp).mp hs
    exact (State.modesWf_recovered_iff (hpower.trans hp)).mpr
      ⟨hcheckpoint.trans hc, hsave.trans hv, fun i => (hdue i).trans (hd i), fun e hmem => he e (h.entries hmem)⟩
  | run =>
    obtain ⟨hv, hi, hw, hk⟩ := (State.modesWf_run_iff hp).mp hs
    exact (State.modesWf_run_iff (hpower.trans hp)).mpr
      ⟨hsave.trans hv, (h.ignored hp).trans hi, fun hon => h.pwarn hp (hw (h.supply ▸ hon)), fun i => (hparked i).trans (hk i)⟩
  | hold =>
    obtain ⟨hc, hv, hk⟩ := (State.modesWf_hold_iff hp).mp hs
    exact (State.modesWf_hold_iff (hpower.trans hp)).mpr
      ⟨hcheckpoint.trans hc, fun hon => hsave ▸ hv (h.supply ▸ hon), fun i => (hparked i).trans (hk i)⟩
  | parked =>
    obtain ⟨hc, hv, hk⟩ := (State.modesWf_parked_iff hp).mp hs
    exact (State.modesWf_parked_iff (hpower.trans hp)).mpr
      ⟨hcheckpoint.trans hc, hsave.trans hv, fun i => (hparked i).trans (hk i)⟩

end

/-! ### PARKED records -/

theorem State.parkedAt_eq_none_iff {s : State} {i : Fin 256} :
    s.parkedAt i = none ↔ ∀ r, s.recordAt i = some r → r.timing.state ≠ .parked := by
  unfold State.parkedAt
  cases s.recordAt i with
  | none => simp
  | some r =>
    cases ht : r.timing with
    | active run => cases run <;> simp [ht, Timing.state]
    | idle | paused | parked => simp [ht, Timing.state]

theorem Timing.state_active_ne_parked (run : Run) (phase : Phase) (start due : Time) :
    (Timing.active run phase start due).state ≠ .parked := by
  cases run <;> exact nofun

theorem RecordOf.unparked_stretched (r : Record) (h : Nat) (newNow : Time) :
    (RecordOf.timing (r.stretched h newNow)).state ≠ .parked := by
  unfold RecordOf.stretched
  cases ht : r.timing with
  | active | parked => exact Timing.state_active_ne_parked _ _ _ _
  | idle | paused => simp [ht, Timing.state]

theorem RecordOf.unparked_unparked (r : Record) (frozen : Time) : (RecordOf.timing (r.unparked frozen)).state ≠ .parked := by
  unfold RecordOf.unparked
  cases ht : r.timing with
  | parked => exact Timing.state_active_ne_parked _ _ _ _
  | active => simpa only [ht] using Timing.state_active_ne_parked _ _ _ _
  | idle | paused => simp [ht, Timing.state]

section
variable {r r' : Record}

theorem RecordOf.Expires.unparked {n : Time} (h : r.Expires n r') : r'.timing.state ≠ .parked := by
  cases h with
  | completed => exact nofun
  | phaseB => exact Timing.state_active_ne_parked _ _ _ _
  | nextCycle | faulted => exact nofun

/-- No operation parks a record (R24). -/
theorem RecordOf.Becomes.keeps_unparked (h : r.Becomes r') (hr : r.timing.state ≠ .parked) : r'.timing.state ≠ .parked := by
  cases h with
  | started | stopped | paused | faulted | renewed => exact nofun
  | continued | retimed => exact Timing.state_active_ne_parked _ _ _ _
  | expired _ hexpires => exact hexpires.unparked
  | grouped | triggered | staged | written => exact hr
  | stretched => exact r.unparked_stretched _ _
  | unparked => exact r.unparked_unparked _

theorem RecordOf.unparked_of_reaches (h : Relation.ReflTransGen RecordOf.Becomes r r') (hr : r.timing.state ≠ .parked) :
    r'.timing.state ≠ .parked := by
  induction h with
  | refl => exact hr
  | tail _ hlast ih => exact hlast.keeps_unparked ih

end

section
variable {s u : State} {i : Fin 256}

theorem State.Acts.parkedAt (h : s.Acts u) (hs : s.parkedAt i = none) : u.parkedAt i = none := by
  rw [State.parkedAt_eq_none_iff] at hs ⊢
  intro r' hr'
  have hrel := h.records i
  rw [hr'] at hrel
  generalize hx : s.recordAt i = x at hrel
  cases hrel with
  | some hreach => exact RecordOf.unparked_of_reaches hreach (hs _ hx)

/-- What operations do in RUN is within what RUN implies. -/
theorem State.Acts.modesWf (h : s.Acts u) (hp : s.pr.power = .run) (hs : s.modesWf) : u.modesWf := by
  obtain ⟨hv, hi, hw, hk⟩ := (State.modesWf_run_iff hp).mp hs
  refine (State.modesWf_run_iff (by rw [h.keeps.pr, hp])).mpr ?_
  rw [h.keeps.pr, h.keeps.lu, h.keeps.supply]
  exact ⟨hv, hi, hw, fun i => h.parkedAt (hk i)⟩

/-- A visited record is not PARKED any more (R167, R168). -/
theorem State.parkedAt_treat (frozen : Time) (h : Nat) (unknown : Bool) (s : State) (i : Fin 256) :
    (s.treat frozen h unknown i).parkedAt i = none := by
  have hput (r' : Record) (hr' : r'.timing.state ≠ .parked) : (s.putRecord i r').parkedAt i = none :=
    State.parkedAt_eq_none_iff.mpr fun r hr => by
      cases hr.symm.trans (s.recordAt_putRecord_self i r')
      exact hr'
  unfold State.treat
  split
  next hnone => exact State.parkedAt_eq_none_iff.mpr fun r hr => nomatch hnone.symm.trans hr
  next r _ =>
  dsimp only
  split
  · exact hput _ (r.unparked_stretched _ _)
  · exact (State.acts_replayDue i _ _ _).parkedAt (hput _ (r.unparked_unparked _))

/-- When each PARKED record has been visited none is left. -/
theorem State.parkedAt_foldl_treat (frozen : Time) (h : Nat) (unknown : Bool) {l : List (Fin 256)} (hnd : l.Nodup)
    (hl : ∀ i, i ∉ l → s.parkedAt i = none) (i : Fin 256) :
    (l.foldl (fun u i => u.treat frozen h unknown i) s).parkedAt i = none := by
  by_cases hi : i ∈ l
  · obtain ⟨u, -, -, hfold⟩ := s.slots_foldl_of_mem (fun u i => u.treat frozen h unknown i)
      (fun u i => u.keeps_treat frozen h unknown i) (fun u i j => u.slots_treat_ne frozen h unknown i j) hnd hi
    have hsame := u.parkedAt_treat frozen h unknown i
    simpa only [State.parkedAt, State.recordAt, hfold] using hsame
  · have hslot := s.slots_foldl_of_notMem (fun u i => u.treat frozen h unknown i)
      (fun u i j => u.slots_treat_ne frozen h unknown i j) hi
    have hsame := hl i hi
    simpa only [State.parkedAt, State.recordAt, hslot] using hsame

/-! ### HOLD, RUN and reconciliation -/

theorem State.modesWf_enterHold (hk : ∀ i, s.parkedAt i = none) : s.enterHold.modesWf := by
  unfold State.enterHold
  dsimp only
  split
  · exact (State.modesWf_hold_iff rfl).mpr ⟨rfl, fun _ => rfl, hk⟩
  next hnone => exact (State.modesWf_hold_iff rfl).mpr ⟨hnone, fun _ => rfl, hk⟩

theorem State.modesWf_enterRun (hv : s.pr.save = none) (hi : s.lu.ignored = 0) (hk : ∀ i, s.parkedAt i = none) :
    s.enterRun.modesWf := by
  unfold State.enterRun
  dsimp only
  split
  · exact State.modesWf_enterHold hk
  next hpwarn => exact (State.modesWf_run_iff rfl).mpr ⟨hv, hi, fun _ => Bool.eq_false_of_not_eq_true hpwarn, hk⟩

theorem State.modesWf_reconcile (hv : s.pr.save = none) (origin : ResumeOrigin) (h : Nat) (unknown : Bool)
    (hk : ∀ i, i ∉ s.visited origin → s.parkedAt i = none) : (s.reconcile origin h unknown).modesWf := by
  have hkeep := s.keeps_foldl _ (fun u i => u.keeps_treat s.td.now h unknown i) (s.visited origin)
  refine State.modesWf_enterRun ?_ rfl (State.parkedAt_foldl_treat s.td.now h unknown (s.nodup_visited origin) hk)
  exact (congrArg PowerUnit.save hkeep.pr).trans hv

/-- With the save complete in HOLD the part may wait PARKED (R153). -/
theorem State.modesWf_holdSaved (hs : s.modesWf) (hp : s.pr.power = .hold) (f : SaveInFlight) :
    ((s.holdSaved f).withPower .parked).modesWf := by
  obtain ⟨hc, -, hk⟩ := (State.modesWf_hold_iff hp).mp hs
  exact (State.modesWf_parked_iff rfl).mpr ⟨(PowerUnit.checkpoint_written _ _ _).trans hc, rfl, hk⟩

end

end Sys2Proof.Machine
end

-- ==== Modes: what an invariant has to show of a step ====
section
/-! SUPPORT. The commands in two sorts: those that only do what operations do or change what no invariant reads, which are settled here
once, and the others, of which an invariant has to show that they keep it. -/

namespace Sys2Proof.Machine

set_option Elab.async false

/-- What has to be shown of an invariant so that every step keeps it, in a part whose modes are sound: that it reads nothing inert,
that the operations on records keep it, and that each command that does more does. -/
structure StepInvariant (I : State → Prop) : Prop where
  inert {s u : State} : I s → s.Inert u → I u
  acts {s u : State} : s.modesWf → I s → s.pr.power = .run → s.Acts u → I u
  beginLoading {s u : State} : I s → u.slots = s.slots → u.ou.routes = s.ou.routes → u.pr.store = s.pr.store → I u.beginLoading
  supplyLost {s : State} : s.modesWf → I s → I { s with supply := false, pr := { s.pr with checkpoint := none, save := none } }
  storeLost {s : State} : s.modesWf → I s → s.supply = false → I { s with pr := { s.pr with store := Vector.replicate 2 emptyBank } }
  restore {s : State} {b : Fin 2} {st : StoredImage} (levels : BitVec 8) : s.modesWf → I s → s.pr.power = .loading →
    s.pr.store[b].content = some st → I (s.restore st.image levels)
  coldStart {s : State} (levels : BitVec 8) : s.modesWf → I s → s.pr.power = .loading → I (s.coldStart levels)
  pwarnAsserted {s : State} : s.modesWf → I s → s.pr.power = .run → I (State.enterHold { s with pr := { s.pr with pwarn := true } })
  holdSaved {s : State} {f : SaveInFlight} : s.modesWf → I s → s.pr.power = .hold → I ((s.holdSaved f).withPower .parked)
  brownout {s : State} : s.modesWf → I s → s.pr.power = .parked → I s.brownout
  checkpointComplete {s : State} {c : CheckpointInFlight} : s.modesWf → I s → s.pr.power = .run → s.pr.checkpoint = some c →
    I (State.postSystem { s with pr := { s.pr.written c.bank c.snapshot with checkpoint := none } } (.checkpointDone c.generation)
      s.td.now)
  define {s : State} (d : DefineBody) : s.modesWf → I s → s.pr.power = .run → I (s.define d).state
  retire {s : State} (h : Handle) : s.modesWf → I s → s.pr.power = .run → I (s.retire h).state
  route {s : State} (b : RouteBody) : s.modesWf → I s → s.pr.power = .run → I (s.routeOutput b).state
  clear {s : State} : s.modesWf → I s → s.pr.power = .run → I s.clearPart.state
  checkpoint {s : State} : s.modesWf → I s → s.pr.power = .run → I s.takeCheckpoint.state
  resume {s : State} (h : Nat) (unknown : Bool) : s.modesWf → I s → s.pr.power = .recovered → I (s.reconcile .resume h unknown)
  discard {s : State} : s.modesWf → I s → s.pr.power = .recovered → I s.discardImage.state

/-! ### The power states that owners leave -/

section
variable (s : State)

theorem State.power_enterHold : s.enterHold.pr.power = .hold := by
  unfold State.enterHold
  dsimp only
  split <;> rfl

theorem State.power_enterRun : s.enterRun.pr.power ≠ .loading := by
  unfold State.enterRun
  dsimp only
  split
  · rw [State.power_enterHold]; exact nofun
  · exact nofun

theorem State.pr_define (d : DefineBody) : (s.define d).state.pr = s.pr := by
  unfold State.define
  repeat' split
  all_goals rfl

theorem State.pr_retire (h : Handle) : (s.retire h).state.pr = s.pr := by
  unfold State.retire
  repeat' split
  all_goals rfl

theorem State.pr_routeOutput (b : RouteBody) : (s.routeOutput b).state.pr = s.pr := by
  unfold State.routeOutput
  repeat' split
  all_goals rfl

theorem State.power_clearPart : s.clearPart.state.pr.power = s.pr.power := by
  unfold State.clearPart
  dsimp only
  split <;> rfl

theorem State.power_takeCheckpoint : s.takeCheckpoint.state.pr.power = s.pr.power := by
  unfold State.takeCheckpoint
  split <;> rfl

end

/-- FETCH takes an entry away (R136). -/
theorem State.inert_fetchEntry (s : State) : s.Inert s.fetchEntry.state := by
  unfold State.fetchEntry
  split
  · exact {}
  · split
    · exact {}
    · exact { entries := List.eraseIdx_subset }

/-! ### Settling and the port -/

/-- A command that keeps an invariant in a part whose modes are sound. -/
def Keeps (I : State → Prop) (run : State → Host.Outcome State Fault Refusal) : Prop :=
  ∀ s t : State, s.modesWf → I s → run s = .next t → I t

theorem State.modesWf.settle {s : State} (h : s.modesWf) : s.settle.modesWf := by
  by_cases hp : s.pr.power = .run
  · exact s.acts_settle.modesWf hp h
  · rwa [s.settle_of_ne_run hp]

section
variable {I : State → Prop} (hI : StepInvariant I) {s u : State}
include hI

/-- An event meets the part settled. -/
theorem StepInvariant.event {f : State → State} (hf : ∀ u : State, u.modesWf → I u → I (f u)) : Keeps I fun s => s.event f := by
  intro s t hm h hnext
  cases hnext
  split
  · refine hf _ (State.modesWf.settle hm) ?_
    by_cases hp : s.pr.power = .run
    · exact hI.acts hm h hp s.acts_settle
    · rwa [s.settle_of_ne_run hp]
  · exact h

/-- The tests on a frame leave all but the port to what a good frame does, which meets no LOADING (R173). -/
theorem StepInvariant.judge {seq : Byte} {good : State → State} (hm : u.modesWf) (h : I u)
    (hgood : ∀ v : State, v.modesWf → I v → v.pr.power ≠ .loading → I (good v)) : I (u.judge seq good) := by
  unfold State.judge
  split
  · exact hI.inert h {}
  split
  · exact hI.inert h {}
  next hmet =>
    have hframe : u.Inert u.endFrame := {}
    refine hgood _ (hframe.modesWf hm) (hI.inert h hframe) fun hp => hmet ?_
    have hpower : u.pr.power = .loading := hp
    simp [State.frameMetLoading, hpower]

theorem StepInvariant.replay (h : I u) : I u.replay := by
  unfold State.replay
  split
  · exact hI.inert h {}
  · exact h

/-- Outside LOADING an answer is no concern of an invariant. -/
theorem StepInvariant.answer (hp : u.pr.power ≠ .loading) (h : I u) (seq : Byte) (st : Status) (body : List Byte) :
    I (u.answer seq st body) :=
  hI.inert h { lastSeq := fun hloading => absurd hloading hp }

theorem StepInvariant.request {seq : Byte} {a : Admission} {owner : State → Answer}
    (howner : ∀ v : State, v.modesWf → I v → v.pr.power ≠ .loading → v.refusal a = none →
      I (owner v).state ∧ (owner v).state.pr.power ≠ .loading) : Keeps I fun s => s.request seq a owner :=
  hI.event fun u hm h => hI.judge hm h fun v hmv hv hp => by
    split
    · exact hI.replay hv
    · cases hr : v.refusal a with
      | some st => rw [v.serve_refused hr]; exact hI.answer hp hv _ _ _
      | none =>
        obtain ⟨hdone, hleft⟩ := howner v hmv hv hp hr
        rw [v.serve_admitted hr]
        exact hI.answer hleft hdone _ _ _

/-- A request whose owner changes nothing that an invariant reads. -/
theorem StepInvariant.request_inert {seq : Byte} {a : Admission} {owner : State → Answer}
    (howner : ∀ v : State, v.Inert (owner v).state) : Keeps I fun s => s.request seq a owner :=
  hI.request fun v _ hv hp _ => ⟨hI.inert hv (howner v), by rwa [(howner v).power]⟩

/-- A request that only RUN admits and whose owner keeps the power state. -/
theorem StepInvariant.request_run {seq : Byte} {owner : State → Answer}
    (hpower : ∀ v : State, (owner v).state.pr.power = v.pr.power)
    (howner : ∀ v : State, v.modesWf → I v → v.pr.power = .run → I (owner v).state) :
    Keeps I fun s => s.request seq .run owner :=
  hI.request fun v hm hv hp hr => ⟨howner v hm hv (State.power_of_refusal_run hr), by rwa [hpower]⟩

/-- A request in RUN whose owner only does what operations do. -/
theorem StepInvariant.request_acts {seq : Byte} {owner : State → Answer}
    (howner : ∀ v : State, (∀ i, v.parkedAt i = none) → v.Acts (owner v).state) : Keeps I fun s => s.request seq .run owner :=
  hI.request fun v hm hv _ hr => by
    have hp := State.power_of_refusal_run hr
    have hacts := howner v (State.modesWf.unparked hm (by rw [hp]; exact nofun) (by rw [hp]; exact nofun))
    exact ⟨hI.acts hm hv hp hacts, by rw [hacts.keeps.pr, hp]; exact nofun⟩

/-! ### Lines -/

/-- An edge acts on records in RUN, and elsewhere at most notes its line. -/
theorem StepInvariant.edge (hm : u.modesWf) (h : I u) (l : Fin 8) : I (u.edge l) := by
  by_cases hp : u.pr.power = .run
  · exact hI.acts hm h hp (u.acts_edge hp l)
  · by_cases hloading : u.pr.power = .loading
    · simpa only [State.edge, hloading] using h
    · rw [State.edge_outside_run hloading hp]
      exact hI.inert h { ignored := fun hrun => absurd hrun hp }

theorem StepInvariant.accept (hm : u.modesWf) (h : I u) (l : Fin 8) (level : Bool) : I (u.accept l level) := by
  unfold State.accept
  dsimp only
  have hline : u.Inert (u.putLine l { u.lu.lines[l] with level := level, candidate := none }) := {}
  split
  · exact hI.edge (hline.modesWf hm) (hI.inert h hline) l
  · exact hI.inert h hline

theorem StepInvariant.candidateAccepted (l : Fin 8) : Keeps I (execCandidateAccepted l) :=
  hI.event fun u hm h => by
    split
    · exact h
    · exact h
    · exact hI.accept hm h l _

theorem StepInvariant.sampledLevelChange (l : Fin 8) (level : Bool) : Keeps I (execSampledLevelChange l level) :=
  hI.event fun u hm h => by
    dsimp only
    split
    · exact h
    · split
      · exact hI.inert h {}
      · split
        · exact hI.accept hm h l level
        · split
          · exact h
          · exact hI.inert h {}

/-! ### The port's own rows -/

theorem StepInvariant.csnFallingEdge (soon : Bool) : Keeps I (execCsnFallingEdge soon) :=
  hI.event fun u _ h => by
    split
    · exact h
    · exact hI.inert h {}

theorem StepInvariant.emptyFrame : Keeps I execEmptyFrame := hI.event fun _ _ h => hI.inert h {}

theorem StepInvariant.ignoredFrame : Keeps I execIgnoredFrame :=
  hI.event fun u _ h => by
    split
    · exact hI.inert h {}
    · exact h

theorem StepInvariant.starting (bytes : List Byte) : Keeps I (execStarting bytes) :=
  hI.event fun u hm h => by
    split
    · exact h
    · split
      · exact hI.judge hm h fun _ _ hv _ => hv
      · exact h

theorem StepInvariant.frameError (bytes : List Byte) : Keeps I (execFrameError bytes) :=
  hI.event fun u hm h => by
    split
    · exact hI.judge hm h fun _ _ hv _ => hI.inert hv {}
    · exact h

theorem StepInvariant.duplicate (seq code : Byte) (body : List Byte) : Keeps I (execDuplicate seq code body) :=
  hI.event fun u hm h => by
    split
    · exact hI.judge hm h fun _ _ hv _ => hI.replay hv
    · exact h

theorem StepInvariant.badRequest (seq code : Byte) (body : List Byte) : Keeps I (execBadRequest seq code body) :=
  hI.event fun u hm h => by
    split
    · exact h
    · refine hI.judge hm h fun v _ hv hp => ?_
      split
      · exact hI.replay hv
      · exact hI.answer hp hv _ _ _

/-! ### The power events -/

theorem StepInvariant.powerOn (pwarn rstn : Bool) : Keeps I (execPowerOn pwarn rstn) := by
  intro s t _ h hnext
  cases hnext
  exact hI.beginLoading h rfl rfl rfl

theorem StepInvariant.rstnAsserted : Keeps I execRstnAsserted := hI.event fun _ _ h => hI.beginLoading h rfl rfl rfl

theorem StepInvariant.rstnReleased : Keeps I execRstnReleased := hI.event fun _ _ h => hI.inert h {}

theorem StepInvariant.hrstPulseEnd : Keeps I execHrstPulseEnd := hI.event fun _ _ h => hI.inert h {}

theorem StepInvariant.storeContentsLost : Keeps I execStoreContentsLost := by
  intro s t hm h hnext
  cases hnext
  split
  · exact h
  next hdark => exact hI.storeLost hm h (Bool.eq_false_of_not_eq_true hdark)

theorem StepInvariant.loadingComplete (levels : BitVec 8) : Keeps I (execLoadingComplete levels) :=
  hI.event fun u hm h => by
    split
    next hp _ =>
      have hjudged : u.Inert (State.holdResponse { u with pr := { u.pr with banks := u.pr.store.map Bank.judge } } ⟨0, .done, []⟩) :=
        {}
      have hm' := hjudged.modesWf hm
      have h' := hI.inert h hjudged
      dsimp only
      split
      next img hselected =>
        obtain ⟨b, -, hcontent⟩ := Option.bind_eq_some_iff.mp hselected
        obtain ⟨st, hst, rfl⟩ := Option.map_eq_some_iff.mp hcontent
        exact hI.restore levels hm' h' hp hst
      · exact hI.coldStart levels hm' h' hp
    · exact h

theorem StepInvariant.pwarnEvent : Keeps I execPwarnAsserted :=
  hI.event fun u hm h => by
    dsimp only
    split
    next hp => exact hI.pwarnAsserted hm h hp
    next hp => exact hI.inert h { pwarn := fun hrun => absurd hrun hp }

theorem StepInvariant.pwarnWithdrawn : Keeps I execPwarnWithdrawn :=
  hI.event fun u hm h => by
    have hover : u.Inert { u with pr := { u.pr with pwarn := false } } := { pwarn := fun _ _ => rfl }
    dsimp only
    split
    next hp => exact hI.brownout (hover.modesWf hm) (hI.inert h hover) hp
    · exact hI.inert h hover

/-- The save is complete in HOLD; the brownout that may follow is that of the parked part (R153). -/
theorem StepInvariant.holdSaveComplete : Keeps I execHoldSaveComplete :=
  hI.event fun u hm h => by
    split
    · exact h
    next f hf =>
      have hp : u.pr.power = .hold := State.modesWf.save hm (by rw [hf]; rfl)
      have hparked := hI.holdSaved (f := f) hm h hp
      dsimp only
      split
      · exact hparked
      · have hbrownout := hI.brownout (State.modesWf_holdSaved hm hp f) hparked rfl
        rwa [State.brownout_withPower] at hbrownout

theorem StepInvariant.checkpointEvent : Keeps I execCheckpointComplete :=
  hI.event fun u hm h => by
    split
    · exact h
    next c hc => exact hI.checkpointComplete hm h (hm.1 (by rw [hc]; rfl)) hc

theorem StepInvariant.tick : Keeps I execTick :=
  hI.event fun u _ h => by
    split
    · exact h
    all_goals exact hI.inert h {}

theorem StepInvariant.expiry : Keeps I execExpiry := by
  intro s t hm h hnext
  cases hnext
  split
  · split
    next hp _ => exact hI.acts hm h hp (s.acts_expire _ _)
    · exact h
  · exact h

/-! ### Every command and every step -/

theorem StepInvariant.resumeRequest (outage : BitVec 32) {v : State} (hm : v.modesWf) (h : I v) (hp : v.pr.power = .recovered) :
    I (v.resumeRequest outage).state ∧ (v.resumeRequest outage).state.pr.power ≠ .loading := by
  unfold State.resumeRequest
  split
  · exact ⟨hI.resume 0 true hm h hp, State.power_enterRun _⟩
  · split
    · exact ⟨h, fun e => nomatch e.symm.trans hp⟩
    · exact ⟨hI.resume _ false hm h hp, State.power_enterRun _⟩

/-- Every command keeps the invariant. -/
theorem StepInvariant.exec (c : Instr) : Keeps I (exec c) := by
  cases c with
  | powerOn pwarn rstn => exact hI.powerOn pwarn rstn
  | supplyLost => exact hI.event fun _ hm h => hI.supplyLost hm h
  | rstnAsserted => exact hI.rstnAsserted
  | rstnReleased => exact hI.rstnReleased
  | loadingComplete levels => exact hI.loadingComplete levels
  | pwarnAsserted => exact hI.pwarnEvent
  | pwarnWithdrawn => exact hI.pwarnWithdrawn
  | holdSaveComplete => exact hI.holdSaveComplete
  | checkpointComplete => exact hI.checkpointEvent
  | tick => exact hI.tick
  | expiry => exact hI.expiry
  | hrstPulseEnd => exact hI.hrstPulseEnd
  | candidateAccepted l => exact hI.candidateAccepted l
  | sampledLevelChange l level => exact hI.sampledLevelChange l level
  | storeContentsLost => exact hI.storeContentsLost
  | csnFallingEdge soon => exact hI.csnFallingEdge soon
  | ignoredFrame => exact hI.ignoredFrame
  | emptyFrame => exact hI.emptyFrame
  | starting bytes => exact hI.starting bytes
  | frameError bytes => exact hI.frameError bytes
  | duplicate seq code body => exact hI.duplicate seq code body
  | badRequest seq code body => exact hI.badRequest seq code body
  | define seq d => exact hI.request_run (fun v => congrArg _ (v.pr_define d)) fun _ hm h hp => hI.define d hm h hp
  | retire seq handle => exact hI.request_run (fun v => congrArg _ (v.pr_retire handle)) fun _ hm h hp => hI.retire handle hm h hp
  | route seq b => exact hI.request_run (fun v => congrArg _ (v.pr_routeOutput b)) fun _ hm h hp => hI.route b hm h hp
  | clear seq => exact hI.request_run State.power_clearPart fun _ hm h hp => hI.clear hm h hp
  | checkpoint seq => exact hI.request_run State.power_takeCheckpoint fun _ hm h hp => hI.checkpoint hm h hp
  | resume seq outage =>
    exact hI.request fun _ hm h _ hr => hI.resumeRequest outage hm h (State.power_of_refusal_resume hr)
  | discard seq =>
    exact hI.request fun _ hm h _ hr => ⟨hI.discard hm h (State.power_of_refusal_discard hr), State.power_enterRun _⟩
  | modify seq handle m => exact hI.request_acts fun _ hunparked => State.acts_modify hunparked handle m
  | start seq handle => exact hI.request_acts fun v _ => v.acts_startRecord handle
  | stop seq handle => exact hI.request_acts fun v _ => v.acts_stopRecord handle
  | restart seq handle => exact hI.request_acts fun v _ => v.acts_restartRecord handle
  | pause seq handle => exact hI.request_acts fun v _ => v.acts_pauseRecord handle
  | continueRecord seq handle => exact hI.request_acts fun v _ => v.acts_continueRecord handle
  | renew seq handle => exact hI.request_acts fun v _ => v.acts_renew handle
  | join seq handle group => exact hI.request_acts fun v _ => v.acts_joinGroup handle group
  | leave seq handle => exact hI.request_acts fun v _ => v.acts_leaveGroup handle
  | bind seq handle line action => exact hI.request_acts fun v _ => v.acts_bindRecord handle line action
  | unbind seq handle => exact hI.request_acts fun v _ => v.acts_unbindRecord handle
  | groupStart seq group option => exact hI.request_acts fun v _ => v.acts_startGroup group option
  | groupStop seq group => exact hI.request_acts fun v _ => v.acts_stopGroup group
  | groupPause seq group => exact hI.request_acts fun v _ => v.acts_pauseGroup group
  | groupContinue seq group => exact hI.request_acts fun v _ => v.acts_continueGroup group
  | safe seq => exact hI.request_acts fun v _ => v.acts_enterSafe _ _
  | fetch seq => exact hI.request_inert State.inert_fetchEntry
  -- The other owners write the timebase, a line, the safe state or the threshold, or nothing.
  | nop | status | query | find | setTick | setLine | release | setAttn =>
    refine hI.request_inert fun v => ?_
    dsimp only [State.query, State.find, State.setTick, State.setLine, State.releaseSafe, State.setThreshold]
    repeat' split
    all_goals exact {}

/-- One step keeps the invariant: it runs a command, or idles. -/
theorem StepInvariant.step {t : State} (hm : s.modesWf) (h : I s) (hstep : step s = .next t) : I t := by
  unfold Machine.step at hstep
  split at hstep
  · cases hstep
    unfold State.idle
    split
    · exact h
    · split <;> exact hI.inert h {}
  next c rest _ =>
    have hfront : s.Inert { s with pending := rest } := {}
    exact hI.exec c { s with pending := rest } t (hfront.modesWf hm) (hI.inert h hfront) hstep

end

end Sys2Proof.Machine
end

-- ==== Modes: every step keeps them ====
section
/-! SUPPORT. Each command that does more than operations do leaves the part within what its power state implies. -/

namespace Sys2Proof.Machine

set_option Elab.async false

section
variable {s u : State}

theorem State.modesWf_supplyLost (hm : s.modesWf) :
    State.modesWf { s with supply := false, pr := { s.pr with checkpoint := none, save := none } } := by
  cases hp : s.pr.power with
  | loading =>
    obtain ⟨-, he, -, hq⟩ := (State.modesWf_loading_iff hp).mp hm
    exact (State.modesWf_loading_iff (by exact hp)).mpr ⟨rfl, he, rfl, hq⟩
  | recovered =>
    obtain ⟨-, -, hd, he⟩ := (State.modesWf_recovered_iff hp).mp hm
    exact (State.modesWf_recovered_iff (by exact hp)).mpr ⟨rfl, rfl, hd, he⟩
  | run =>
    obtain ⟨-, hi, -, hk⟩ := (State.modesWf_run_iff hp).mp hm
    exact (State.modesWf_run_iff (by exact hp)).mpr ⟨rfl, hi, nofun, hk⟩
  | hold =>
    obtain ⟨-, -, hk⟩ := (State.modesWf_hold_iff hp).mp hm
    exact (State.modesWf_hold_iff (by exact hp)).mpr ⟨rfl, nofun, hk⟩
  | parked =>
    obtain ⟨-, -, hk⟩ := (State.modesWf_parked_iff hp).mp hm
    exact (State.modesWf_parked_iff (by exact hp)).mpr ⟨rfl, rfl, hk⟩

/-- What a request in RUN has to show when it changes more than the records: that it leaves none PARKED and keeps the mode. -/
theorem State.modesWf_of_run (hm : s.modesWf) (hp : s.pr.power = .run) (hpower : u.pr.power = s.pr.power)
    (hsave : u.pr.save = s.pr.save) (hpwarn : u.pr.pwarn = s.pr.pwarn) (hsupply : u.supply = s.supply) (hignored : u.lu.ignored = 0)
    (hk : ∀ i, u.parkedAt i = none) : u.modesWf := by
  obtain ⟨hv, -, hw, -⟩ := (State.modesWf_run_iff hp).mp hm
  exact (State.modesWf_run_iff (hpower.trans hp)).mpr ⟨hsave.trans hv, hignored, hpwarn ▸ hsupply ▸ hw, hk⟩

theorem State.parkedAt_of_free {i : Fin 256} (h : s.recordAt i = none) : s.parkedAt i = none :=
  State.parkedAt_eq_none_iff.mpr fun _ hr => nomatch h.symm.trans hr

theorem State.modesWf_define (hm : s.modesWf) (hp : s.pr.power = .run) (d : DefineBody) : (s.define d).state.modesWf := by
  obtain ⟨-, hi, -, hk⟩ := (State.modesWf_run_iff hp).mp hm
  unfold State.define
  split
  · exact hm
  next r hr =>
  split
  · exact hm
  split
  · exact hm
  next i _ =>
  refine State.modesWf_of_run hm hp rfl rfl rfl rfl hi fun j => State.parkedAt_eq_none_iff.mpr fun r' hr' => ?_
  have hrec := s.recordAt_place i j r
  rw [hr'] at hrec
  split at hrec
  · cases hrec
    rw [definedRecord_idle hr]
    exact nofun
  · exact State.parkedAt_eq_none_iff.mp (hk j) r' hrec.symm

theorem State.modesWf_retire (hm : s.modesWf) (hp : s.pr.power = .run) (h : Handle) : (s.retire h).state.modesWf := by
  obtain ⟨-, hi, -, hk⟩ := (State.modesWf_run_iff hp).mp hm
  unfold State.retire
  split
  · exact hm
  split
  · exact hm
  refine State.modesWf_of_run hm hp rfl rfl rfl rfl hi fun j => State.parkedAt_eq_none_iff.mpr fun r' hr' => ?_
  have hrec := (s.dropEntry h).recordAt_freeRecord h.slot j
  rw [hr'] at hrec
  split at hrec
  · cases hrec
  · exact State.parkedAt_eq_none_iff.mp (hk j) r' hrec.symm

theorem State.modesWf_routeOutput (hm : s.modesWf) (hp : s.pr.power = .run) (b : RouteBody) : (s.routeOutput b).state.modesWf := by
  obtain ⟨-, hi, -, hk⟩ := (State.modesWf_run_iff hp).mp hm
  unfold State.routeOutput
  repeat' split
  all_goals exact State.modesWf_of_run hm hp rfl rfl rfl rfl hi hk

theorem State.modesWf_clearPart (hm : s.modesWf) (hp : s.pr.power = .run) : s.clearPart.state.modesWf := by
  have hk (i : Fin 256) : s.freeAll.parkedAt i = none := State.parkedAt_of_free (s.recordAt_freeAll i)
  unfold State.clearPart
  dsimp only
  split <;> exact State.modesWf_of_run hm hp rfl rfl rfl rfl rfl hk

theorem State.modesWf_takeCheckpoint (hm : s.modesWf) (hp : s.pr.power = .run) : s.takeCheckpoint.state.modesWf := by
  obtain ⟨-, hi, -, hk⟩ := (State.modesWf_run_iff hp).mp hm
  unfold State.takeCheckpoint
  split
  · exact hm
  · exact State.modesWf_of_run hm hp rfl rfl rfl rfl hi hk

theorem State.modesWf_checkpointComplete {c : CheckpointInFlight} (hm : s.modesWf) (hp : s.pr.power = .run) :
    (State.postSystem { s with pr := { s.pr.written c.bank c.snapshot with checkpoint := none } } (.checkpointDone c.generation)
      s.td.now).modesWf := by
  obtain ⟨-, hi, -, hk⟩ := (State.modesWf_run_iff hp).mp hm
  have hpwarn : (s.pr.written c.bank c.snapshot).pwarn = s.pr.pwarn := by rw [s.pr.written_eq c.bank c.snapshot]
  exact State.modesWf_of_run hm hp (s.pr.power_written c.bank c.snapshot) (s.pr.save_written c.bank c.snapshot) hpwarn rfl hi hk

/-! ### LOADING completes -/

/-- A restored record is not timing (R24). -/
theorem State.dueAt_of_image {img : Image} (hs : s.slots = img.slots.map fun slot => ⟨slot.gen, slot.record.map fun r => r.restored⟩)
    (i : Fin 256) : s.dueAt i = none := by
  have hrec : s.recordAt i = img.slots[i].record.map fun r => r.restored := by simp [State.recordAt, hs]
  unfold State.dueAt
  rw [hrec]
  cases img.slots[i].record with
  | none => rfl
  | some r =>
    simp only [Option.map_some, RecordOf.restored]
    cases r.timing <;> rfl

theorem State.modesWf_restore (hm : s.modesWf) (hp : s.pr.power = .loading) (img : Image) (levels : BitVec 8) :
    (s.restore img levels).modesWf := by
  obtain ⟨hc, he, hv, -⟩ := (State.modesWf_loading_iff hp).mp hm
  refine (State.modesWf_recovered_iff rfl).mpr ⟨hc, hv, fun i => State.dueAt_of_image rfl i, fun e hmem => ?_⟩
  rw [Option.eq_none_iff_forall_ne_some]
  intro h hsub
  rw [Entry.handle?_eq_some_iff] at hsub
  rcases subject_of_mem_postSystemEntry hmem with hnew | ⟨e', he', -⟩
  · cases hnew.symm.trans hsub
  · rw [show _ = s.nq.entries from rfl, he] at he'
    cases he'

theorem State.modesWf_coldStart (hm : s.modesWf) (hp : s.pr.power = .loading) (levels : BitVec 8) : (s.coldStart levels).modesWf := by
  obtain ⟨-, -, hv, -⟩ := (State.modesWf_loading_iff hp).mp hm
  exact State.modesWf_enterRun hv rfl fun i => State.parkedAt_of_free (by simp [State.recordAt, freeSlot])

/-! ### Recovery -/

theorem State.modesWf_brownout (hm : s.modesWf) (hp : s.pr.power = .parked) : s.brownout.modesWf := by
  obtain ⟨-, hv, hk⟩ := (State.modesWf_parked_iff hp).mp hm
  exact State.modesWf_reconcile hv .brownout _ false fun i _ => hk i

theorem State.modesWf_resume (hm : s.modesWf) (hp : s.pr.power = .recovered) (h : Nat) (unknown : Bool) :
    (s.reconcile .resume h unknown).modesWf := by
  obtain ⟨-, hv, -, -⟩ := (State.modesWf_recovered_iff hp).mp hm
  exact State.modesWf_reconcile hv .resume h unknown fun i hi => of_not_not fun hparked => hi (State.mem_parkedOrder.mpr hparked)

theorem State.modesWf_discardImage (hm : s.modesWf) (hp : s.pr.power = .recovered) : s.discardImage.state.modesWf := by
  obtain ⟨-, hv, -, -⟩ := (State.modesWf_recovered_iff hp).mp hm
  exact State.modesWf_enterRun hv rfl fun i => State.parkedAt_of_free (s.recordAt_freeAll i)

end

theorem stepInvariant_modesWf : StepInvariant State.modesWf where
  inert hm hinert := State.Inert.modesWf hinert hm
  acts hm _ hp hacts := State.Acts.modesWf hacts hp hm
  beginLoading _ _ _ _ := (State.modesWf_loading_iff rfl).mpr ⟨rfl, rfl, rfl, rfl⟩
  supplyLost hm _ := State.modesWf_supplyLost hm
  storeLost hm _ _ := hm
  restore levels hm _ hp _ := State.modesWf_restore hm hp _ levels
  coldStart levels hm _ hp := State.modesWf_coldStart hm hp levels
  pwarnAsserted hm _ hp :=
    State.modesWf_enterHold fun i => State.modesWf.unparked hm (by rw [hp]; exact nofun) (by rw [hp]; exact nofun) i
  holdSaved hm _ hp := State.modesWf_holdSaved hm hp _
  brownout hm _ hp := State.modesWf_brownout hm hp
  checkpointComplete hm _ hp _ := State.modesWf_checkpointComplete hm hp
  define d hm _ hp := State.modesWf_define hm hp d
  retire h hm _ hp := State.modesWf_retire hm hp h
  route b hm _ hp := State.modesWf_routeOutput hm hp b
  clear hm _ hp := State.modesWf_clearPart hm hp
  checkpoint hm _ hp := State.modesWf_takeCheckpoint hm hp
  resume h unknown hm _ hp := State.modesWf_resume hm hp h unknown
  discard hm _ hp := State.modesWf_discardImage hm hp

/-- Settles O57: the modes are an invariant of every step, whose one premise is the modes themselves. -/
theorem modesKept : Obligations.ModesKept := fun _ _ hm hstep => stepInvariant_modesWf.step hm hm hstep

end Sys2Proof.Machine
end

-- ==== MODIFY: the items a body gives ====
section
/-! SUPPORT. When a MODIFY passes the BAD_FIELD tests (R5, R15, R180), and which items it then gives. -/

namespace Sys2Proof.Machine

set_option Elab.async false

/-! ### The bytes of values -/

section
variable {x : Byte}

theorem finOf_isSome_iff {n : Nat} : (finOf n x).isSome = true ↔ x.toNat < n := by
  unfold finOf
  split <;> simp_all

theorem notifyOf_isSome_iff : (notifyOf x).isSome = true ↔ x.toNat < 4 := by
  unfold notifyOf
  split <;> simp_all

theorem consequenceOf_isSome_iff : (consequenceOf x).isSome = true ↔ x.toNat < 3 := by
  revert x
  decide

theorem holdPolicyOf_isSome_iff : (holdPolicyOf x).isSome = true ↔ x.toNat < 2 := by
  revert x
  decide

theorem modeOf_isSome_iff : (modeOf x).isSome = true ↔ x.toNat < 2 := by
  revert x
  decide

theorem periodOf_isSome_iff {p : Period} : (periodOf p).isSome = true ↔ p ≠ 0 := by
  unfold periodOf
  split <;> simp_all

/-- A Notify set of the wire that a kind admits, bit by bit (R5, R181). -/
theorem admitsNotify_iff {n : Notify} (hx : notifyOf x = some n) (k : Kind) :
    k.admitsNotify n = true ↔ (k = .oneshot ∨ k = .supervise → x = 0) ∧ (k = .window → x.getLsbD 1 = false) := by
  unfold notifyOf at hx
  split at hx
  next hlt =>
    cases hx
    have hzero : (!x.getLsbD 0 && !x.getLsbD 1) = true ↔ x = 0 := by
      revert hlt
      revert x
      decide
    cases k <;> simp only [Kind.admitsNotify, hzero] <;> simp
  next => cases hx

end

/-! ### The items -/

/-- The items that a body gives: each value whose presence bit is set. -/
def givenItems (b : ModifyBody) : ModifyItems :=
  let has (n : Nat) : Bool := b.presence.getLsbD n
  { priority := if has 0 then finOf 8 b.priority else none
    notify := if has 1 then notifyOf b.notify else none
    consequence := if has 2 then consequenceOf b.consequence else none
    holdPolicy := if has 3 then holdPolicyOf b.holdPolicy else none
    tag := if has 4 then some b.tag else none
    clearMiss := has 5
    timing :=
      { periodA := if has 6 then periodOf b.periodA else none
        periodB := if has 7 then periodOf b.periodB else none
        repeatCount := if has 8 then some b.repeatCount else none }
    mode := (if has 6 || has 7 || has 8 then modeOf b.mode else none).getD .atBoundary }

theorem given_eq_some_iff {α : Type} {present : Bool} {value x : Option α} :
    given present value = some x ↔ (present = true → value.isSome = true) ∧ x = if present then value else none := by
  unfold given
  cases present with
  | false => simpa using eq_comm
  | true => cases value <;> simp [eq_comm (a := x)]

/-- The BAD_FIELD tests as MODIFY makes them, one by one. -/
theorem modifyItems_eq_some_iff {k : Kind} {b : ModifyBody} {m : ModifyItems} :
    modifyItems k b = some m ↔ modifyFields b k ∧ m = givenItems b := by
  have hB : k.hasPeriodB = true ↔ k = .cadence ∨ k = .window := by cases k <;> decide
  have hR : k.hasRepeat = true ↔ k = .cadence := by cases k <;> decide
  have hS : k.supervises = true ↔ k = .supervise ∨ k = .window := by cases k <;> decide
  have htimed : (b.presence.getLsbD 6 || b.presence.getLsbD 7 || b.presence.getLsbD 8) = true ↔ modifyTimed b := by
    simp [modifyTimed, or_assoc]
  constructor
  · intro hm
    unfold modifyItems at hm
    dsimp only at hm
    split at hm
    next priority notify consequence holdPolicy periodA periodB mode e0 e1 e2 e3 e6 e7 emode =>
      split at hm
      · cases hm
      next hpresence =>
      split at hm
      · cases hm
      next hhasB =>
      split at hm
      · cases hm
      next hhasRepeat =>
      split at hm
      · cases hm
      next hmiss =>
      split at hm
      · cases hm
      next hnotify =>
      obtain ⟨h0, rfl⟩ := given_eq_some_iff.mp e0
      obtain ⟨h1, rfl⟩ := given_eq_some_iff.mp e1
      obtain ⟨h2, rfl⟩ := given_eq_some_iff.mp e2
      obtain ⟨h3, rfl⟩ := given_eq_some_iff.mp e3
      obtain ⟨h6, rfl⟩ := given_eq_some_iff.mp e6
      obtain ⟨h7, rfl⟩ := given_eq_some_iff.mp e7
      obtain ⟨hmode, rfl⟩ := given_eq_some_iff.mp emode
      refine ⟨⟨Nat.not_le.mp hpresence, fun hp => finOf_isSome_iff.mp (h0 hp), fun hp => ?_,
        fun hp => consequenceOf_isSome_iff.mp (h2 hp), fun hp => holdPolicyOf_isSome_iff.mp (h3 hp), fun hp => hS.mp ?_,
        fun hp => periodOf_isSome_iff.mp (h6 hp), fun hp => ⟨periodOf_isSome_iff.mp (h7 hp), hB.mp ?_⟩, fun hp => hR.mp ?_,
        fun ht => modeOf_isSome_iff.mp (hmode (htimed.mpr ht))⟩, (Option.some.inj hm).symm⟩
      · obtain ⟨n, hn⟩ := Option.isSome_iff_exists.mp (h1 hp)
        rw [if_pos hp, hn] at hnotify
        exact ⟨notifyOf_isSome_iff.mp (h1 hp), (admitsNotify_iff hn k).mp (by simpa using hnotify)⟩
      · simpa [hp] using hmiss
      · simpa [hp] using hhasB
      · simpa [hp] using hhasRepeat
    next => cases hm
  · rintro ⟨⟨hpresence, h0, h1, h2, h3, h5, h6, h7, h8, hmode⟩, rfl⟩
    have g0 := given_eq_some_iff.mpr ⟨fun hp => finOf_isSome_iff.mpr (h0 hp), rfl⟩
    have g1 := given_eq_some_iff.mpr ⟨fun hp => notifyOf_isSome_iff.mpr (h1 hp).1, rfl⟩
    have g2 := given_eq_some_iff.mpr ⟨fun hp => consequenceOf_isSome_iff.mpr (h2 hp), rfl⟩
    have g3 := given_eq_some_iff.mpr ⟨fun hp => holdPolicyOf_isSome_iff.mpr (h3 hp), rfl⟩
    have g6 := given_eq_some_iff.mpr ⟨fun hp => periodOf_isSome_iff.mpr (h6 hp), rfl⟩
    have g7 := given_eq_some_iff.mpr ⟨fun hp => periodOf_isSome_iff.mpr (h7 hp).1, rfl⟩
    have gm := given_eq_some_iff.mpr ⟨fun ht => modeOf_isSome_iff.mpr (hmode (htimed.mp ht)), rfl⟩
    unfold modifyItems
    dsimp only
    rw [g0, g1, g2, g3, g6, g7, gm]
    dsimp only
    rw [if_neg (Nat.not_le.mpr hpresence), if_neg, if_neg, if_neg, if_neg]
    · rfl
    · by_cases hp : b.presence.getLsbD 1 = true
      · obtain ⟨hlt, hkinds⟩ := h1 hp
        obtain ⟨n, hn⟩ := Option.isSome_iff_exists.mp (notifyOf_isSome_iff.mpr hlt)
        rw [if_pos hp, hn]
        simpa using (admitsNotify_iff hn k).mpr hkinds
      · rw [if_neg hp]
        exact Bool.false_ne_true
    · simpa using fun hp => hS.mpr (h5 hp)
    · simpa using fun hp => hR.mpr (h8 hp)
    · simpa using fun hp => hB.mpr (h7 hp).2

theorem modifyItems_eq {k : Kind} {b : ModifyBody} (h : modifyFields b k) : modifyItems k b = some (givenItems b) :=
  modifyItems_eq_some_iff.mpr ⟨h, rfl⟩

theorem modifyItems_eq_none {k : Kind} {b : ModifyBody} (h : ¬ modifyFields b k) : modifyItems k b = none :=
  Option.eq_none_iff_forall_ne_some.mpr fun _ hm => h (modifyItems_eq_some_iff.mp hm).1

end Sys2Proof.Machine
end

-- ==== Records: what R4 to R6 let one record hold ====
section
/-! SUPPORT. The invariant of one record in its parts, and that everything an operation makes of a record keeps it. -/

namespace Sys2Proof.Machine

set_option Elab.async false

section
variable {τ : Type} {r : RecordOf τ}

/-! ### The items (R4, R5) -/

/-- The items within R4's ranges and present as the kind has them, one by one. -/
structure RecordOf.Items (r : RecordOf τ) : Prop where
  periodA : r.periodA ≠ 0
  periodB : r.kind.hasPeriodB = (r.periodB != 0)
  repeatCount : r.kind.hasRepeat = true ∨ r.repeatCount = 0
  missCount : r.kind.supervises = true ∨ r.missCount = 0
  notify : r.kind.admitsNotify r.notify = true
  consequence : r.kind.admitsConsequence r.consequence = true
  pendingA : r.pending.periodA ≠ some 0
  pendingB : r.pending.periodB ≠ some 0
  stagedB : r.kind.hasPeriodB = true ∨ r.pending.periodB = none
  stagedRepeat : r.kind.hasRepeat = true ∨ r.pending.repeatCount = none
  trigger : r.kind.supervises = true ∨ ∀ tr, r.trigger = some tr → tr.action ≠ .renew

theorem RecordOf.itemsWf_iff : r.itemsWf = true ↔ r.Items := by
  simp only [RecordOf.itemsWf, Bool.and_eq_true, bne_iff_ne, beq_iff_eq, Bool.or_eq_true, Option.all_eq_true]
  constructor
  · rintro ⟨⟨⟨⟨⟨⟨⟨⟨⟨⟨h1, h2⟩, h3⟩, h4⟩, h5⟩, h6⟩, h7⟩, h8⟩, h9⟩, h10⟩, h11⟩
    exact ⟨h1, h2, h3, h4, h5, h6, h7, h8, h9, h10, h11⟩
  · rintro ⟨h1, h2, h3, h4, h5, h6, h7, h8, h9, h10, h11⟩
    exact ⟨⟨⟨⟨⟨⟨⟨⟨⟨⟨h1, h2⟩, h3⟩, h4⟩, h5⟩, h6⟩, h7⟩, h8⟩, h9⟩, h10⟩, h11⟩

/-- A period that a value may replace: one that is present stays present, and an absent one is replaced by none. -/
theorem hasPeriodB_getD {has : Bool} {given : Option Period} {p : Period} (h : has = (p != 0)) (hpos : given ≠ some 0)
    (hgiven : has = true ∨ given = none) : has = (given.getD p != 0) := by
  cases given with
  | none => exact h
  | some q =>
    rcases hgiven with htrue | hnone
    · rw [htrue]
      exact (bne_iff_ne.mpr fun e => hpos (congrArg some e)).symm
    · cases hnone

theorem getD_eq_zero {has : Bool} {given : Option (BitVec 16)} {n : BitVec 16} (h : has = true ∨ n = 0)
    (hgiven : has = true ∨ given = none) : has = true ∨ given.getD n = 0 := by
  rcases h with htrue | hzero
  · exact .inl htrue
  · rcases hgiven with htrue | hnone
    · exact .inl htrue
    · exact .inr (by rw [hnone]; exact hzero)

theorem RecordOf.Items.takePending (h : r.Items) : RecordOf.Items r.takePending :=
  { h with
    periodA := getD_ne_zero h.pendingA h.periodA
    periodB := hasPeriodB_getD h.periodB h.pendingB h.stagedB
    repeatCount := getD_eq_zero h.repeatCount h.stagedRepeat
    pendingA := nofun
    pendingB := nofun
    stagedB := .inr rfl
    stagedRepeat := .inr rfl }

/-! ### Cycles left (R4, R58) -/

theorem RecordOf.cyclesWf_idle_iff : r.cyclesWf true = true ↔ r.cyclesLeft = none := by
  unfold RecordOf.cyclesWf
  cases r.cyclesLeft <;> simp

theorem RecordOf.cyclesWf_iff :
    r.cyclesWf false = true ↔
      r.cyclesLeft.isSome = (r.kind == .cadence && r.repeatCount != 0) ∧ r.cyclesLeft ≠ some 0 := by
  simp [RecordOf.cyclesWf]

/-- Cycles left as a Repeat count sets it is present exactly for a count that is not 0. -/
theorem cyclesOf_isSome (n : BitVec 16) : (cyclesOf n).isSome = (n != 0) := by
  unfold cyclesOf
  split <;> simp_all

theorem cyclesOf_ne_zero (n : BitVec 16) : cyclesOf n ≠ some 0 := by
  unfold cyclesOf
  split
  · exact nofun
  next h => exact fun e => h (Option.some.inj e)

end

/-! ### A record of the table -/

section
variable {r r' : Record} {run : Run} {phase : Phase} {start due remaining : Time}

theorem RecordOf.wf_idle_iff (ht : r.timing = .idle) : r.wf = true ↔ r.Items ∧ r.cyclesLeft = none := by
  simp only [RecordOf.wf, ht, Bool.and_eq_true, RecordOf.itemsWf_iff, RecordOf.cyclesWf_idle_iff]

/-- What holds of a record in a phase, apart from its instants. -/
structure RecordOf.InPhase (r : Record) (run : Run) (phase : Phase) : Prop where
  items : r.Items
  cycles : r.cyclesLeft.isSome = (r.kind == .cadence && r.repeatCount != 0)
  cyclesPos : r.cyclesLeft ≠ some 0
  phase : r.kind.admitsPhase run phase = true

theorem RecordOf.wf_active_iff (ht : r.timing = .active run phase start due) :
    r.wf = true ↔ r.InPhase run phase ∧ due = start + ticks (r.period phase) := by
  simp only [RecordOf.wf, ht, Bool.and_eq_true, RecordOf.itemsWf_iff, RecordOf.cyclesWf_iff, beq_iff_eq]
  exact ⟨fun ⟨hi, ⟨⟨hc, hp⟩, hk⟩, hd⟩ => ⟨⟨hi, hc, hp, hk⟩, hd⟩, fun ⟨⟨hi, hc, hp, hk⟩, hd⟩ => ⟨hi, ⟨⟨hc, hp⟩, hk⟩, hd⟩⟩

theorem RecordOf.wf_paused_iff (ht : r.timing = .paused run phase remaining) : r.wf = true ↔ r.InPhase run phase := by
  simp only [RecordOf.wf, ht, Bool.and_eq_true, RecordOf.itemsWf_iff, RecordOf.cyclesWf_iff]
  exact ⟨fun ⟨hi, ⟨hc, hp⟩, hk⟩ => ⟨hi, hc, hp, hk⟩, fun ⟨hi, hc, hp, hk⟩ => ⟨hi, ⟨hc, hp⟩, hk⟩⟩

theorem RecordOf.wf_parked_iff (ht : r.timing = .parked run phase remaining) : r.wf = true ↔ r.InPhase run phase := by
  simp only [RecordOf.wf, ht, Bool.and_eq_true, RecordOf.itemsWf_iff, RecordOf.cyclesWf_iff]
  exact ⟨fun ⟨hi, ⟨hc, hp⟩, hk⟩ => ⟨hi, hc, hp, hk⟩, fun ⟨hi, hc, hp, hk⟩ => ⟨hi, ⟨hc, hp⟩, hk⟩⟩

theorem RecordOf.Items.of_wf (h : r.wf = true) : r.Items := by
  simp only [RecordOf.wf, Bool.and_eq_true] at h
  exact RecordOf.itemsWf_iff.mp h.1

theorem RecordOf.wf_idle (h : r.Items) : RecordOf.wf { r with timing := .idle, cyclesLeft := none } = true :=
  (RecordOf.wf_idle_iff rfl).mpr ⟨{ h with }, rfl⟩

theorem RecordOf.wf_active (h : r.InPhase run phase) (start : Time) :
    RecordOf.wf { r with timing := .active run phase start (start + ticks (r.period phase)) } = true := by
  refine (RecordOf.wf_active_iff rfl).mpr ⟨{ items := { h.items with }, cycles := h.cycles, cyclesPos := h.cyclesPos, phase := h.phase }, ?_⟩
  cases phase <;> rfl

/-- A phase of a kind without a supervision is RUNNING, and one of a kind without a Period B is phase A (R4, R6). -/
theorem Kind.admitsPhase_a (k : Kind) {run : Run} (h : k.supervises = true ∨ run = .running) : k.admitsPhase run .a = true := by
  rcases h with h | rfl
  · simp [Kind.admitsPhase, h]
  · simp [Kind.admitsPhase]

theorem Kind.admitsPhase_b {k : Kind} {run run' : Run} (hk : k.hasPeriodB = true) (h : k.admitsPhase run .a = true)
    (hrun : run' = run ∨ run' = .running) : k.admitsPhase run' .b = true := by
  rcases hrun with rfl | rfl
  · simpa [Kind.admitsPhase, hk] using h
  · simp [Kind.admitsPhase, hk]

/-! ### The operations -/

theorem RecordOf.wf_startedAt (h : r.Items) (t : Time) : RecordOf.wf (r.startedAt t) = true := by
  have htaken := h.takePending
  refine (RecordOf.wf_active_iff rfl).mpr ⟨{ items := { htaken with }, cycles := ?_, cyclesPos := ?_, phase := ?_ }, rfl⟩
  · by_cases hk : r.kind = .cadence
    · simp [RecordOf.startedAt, RecordOf.takePending, hk, cyclesOf_isSome]
    · simp [RecordOf.startedAt, RecordOf.takePending, hk]
  · by_cases hk : r.kind = .cadence
    · simp only [RecordOf.startedAt, hk, if_true]
      exact cyclesOf_ne_zero _
    · simp [RecordOf.startedAt, hk]
  · exact Kind.admitsPhase_a _ (.inr rfl)

theorem RecordOf.wf_stopped (h : r.Items) : RecordOf.wf r.stopped = true :=
  RecordOf.wf_idle (r := r.takePending) h.takePending

theorem Kind.ne_cadence_of_supervises {k : Kind} (h : k.supervises = true) : (k == .cadence) = false := by
  cases k <;> first | rfl | cases h

/-- A supervision record in phase A again, after a renewal or a fault (R67, R68, R70, R73 to R76). -/
theorem RecordOf.wf_restarted (h : r.InPhase run phase) (hk : r.kind.supervises = true) (run' : Run) (t : Time) (miss : BitVec 8) :
    RecordOf.wf { r.phaseAFrom run' t with missCount := miss } = true := by
  have htaken := h.items.takePending
  have hnone : r.cyclesLeft.isSome = false := by rw [h.cycles, Kind.ne_cadence_of_supervises hk]; rfl
  refine (RecordOf.wf_active_iff rfl).mpr ⟨?_, rfl⟩
  exact
    { items := { htaken with missCount := .inl hk }
      cycles := by
        show r.cyclesLeft.isSome = (r.kind == .cadence && _)
        rw [hnone, Kind.ne_cadence_of_supervises hk]
        rfl
      cyclesPos := h.cyclesPos
      phase := Kind.admitsPhase_a _ (.inl hk) }

theorem RecordOf.wf_nextCycle (h : r.InPhase run phase) (hk : r.kind = .cadence) {left : Option (BitVec 16)}
    (hleft : left.isSome = r.cyclesLeft.isSome) (hpos : left ≠ some 0) (n : Time) : RecordOf.wf (r.nextCycle left n) = true := by
  have htaken := h.items.takePending
  have hcycles := h.cycles
  refine (RecordOf.wf_active_iff rfl).mpr ⟨{ items := { htaken with }, cycles := ?_, cyclesPos := ?_, phase := ?_ }, rfl⟩
  · cases hpending : r.pending.repeatCount with
    | none => simp [RecordOf.nextCycle, RecordOf.phaseAFrom, RecordOf.takePending, hpending, hleft, hcycles]
    | some v => simp [RecordOf.nextCycle, RecordOf.phaseAFrom, RecordOf.takePending, hpending, hk, cyclesOf_isSome]
  · cases hpending : r.pending.repeatCount with
    | none => simpa [RecordOf.nextCycle, hpending] using hpos
    | some v =>
      simp only [RecordOf.nextCycle, hpending]
      exact cyclesOf_ne_zero v
  · exact Kind.admitsPhase_a _ (.inr rfl)

theorem RecordOf.Expires.wf {n : Time} (hexpires : r.Expires n r') (ht : r.timing = .active run phase start due)
    (h : r.InPhase run phase) : r'.wf = true := by
  cases hexpires with
  | completed => exact RecordOf.wf_idle h.items
  | phaseB hta hk hrun =>
    cases ht.symm.trans hta
    exact RecordOf.wf_active (phase := .b) { h with phase := Kind.admitsPhase_b hk h.phase hrun } n
  | nextCycle hk hleft hpos => exact RecordOf.wf_nextCycle h hk hleft hpos n
  | faulted hk => exact RecordOf.wf_restarted h hk .lapsed n _

/-! ### What MODIFY gives (R15, R16) -/

/-- What the tests of a MODIFY leave of the items that it gives a record of this kind. -/
structure ModifyItems.FitsKind (m : ModifyItems) (k : Kind) : Prop where
  notify : ∀ n, m.notify = some n → k.admitsNotify n = true
  consequence : ∀ c, m.consequence = some c → k.admitsConsequence c = true
  periodA : m.timing.periodA ≠ some 0
  periodB : m.timing.periodB ≠ some 0
  hasPeriodB : k.hasPeriodB = true ∨ m.timing.periodB = none
  hasRepeat : k.hasRepeat = true ∨ m.timing.repeatCount = none

theorem periodOf_ne_zero (p : Period) : periodOf p ≠ some 0 := by
  unfold periodOf
  split
  · exact nofun
  next h => exact fun e => h (Option.some.inj e)

theorem modifyItems_fitsKind {k : Kind} {b : ModifyBody} {m : ModifyItems} (hm : modifyItems k b = some m)
    (hc : (m.consequence.any fun c => !k.admitsConsequence c) = false) : m.FitsKind k := by
  obtain ⟨⟨-, -, hnotify, -, -, -, -, hB, hR, -⟩, rfl⟩ := modifyItems_eq_some_iff.mp hm
  have hperiod (given : Bool) (p : Period) : (if given then periodOf p else none) ≠ some 0 := by
    cases given with
    | false => exact nofun
    | true => exact periodOf_ne_zero p
  refine ⟨fun n hn => ?_, fun c hcs => by simpa [hcs] using hc, hperiod _ _, hperiod _ _, ?_, ?_⟩
  · obtain ⟨hgiven, hn⟩ := Option.ite_none_right_eq_some.mp hn
    exact (admitsNotify_iff hn k).mpr (hnotify hgiven).2
  · cases hgiven : b.presence.getLsbD 7 with
    | true => rcases (hB hgiven).2 with rfl | rfl <;> exact .inl rfl
    | false => exact .inr (if_neg (ne_true_of_eq_false hgiven))
  · cases hgiven : b.presence.getLsbD 8 with
    | true => rw [hR hgiven]; exact .inl rfl
    | false => exact .inr (if_neg (ne_true_of_eq_false hgiven))

section
variable {m : ModifyItems}

theorem RecordOf.Items.modifyItems (h : r.Items) (hfits : m.FitsKind r.kind) : RecordOf.Items (r.modifyItems m) where
  periodA := h.periodA
  periodB := h.periodB
  repeatCount := h.repeatCount
  missCount := h.missCount.imp_right fun hzero => by
    show (if m.clearMiss then 0 else r.missCount) = 0
    rw [hzero, ite_self]
  notify := by
    show r.kind.admitsNotify (m.notify.getD r.notify) = true
    cases hn : m.notify with
    | none => exact h.notify
    | some n => exact hfits.notify n hn
  consequence := by
    show r.kind.admitsConsequence (m.consequence.getD r.consequence) = true
    cases hc : m.consequence with
    | none => exact h.consequence
    | some c => exact hfits.consequence c hc
  pendingA := h.pendingA
  pendingB := h.pendingB
  stagedB := h.stagedB
  stagedRepeat := h.stagedRepeat
  trigger := h.trigger

theorem or_ne_some_zero {x y : Option Period} (hx : x ≠ some 0) (hy : y ≠ some 0) : x.or y ≠ some 0 := by
  cases x with
  | none => exact hy
  | some p => exact hx

theorem or_eq_none {α : Type} {has : Bool} {x y : Option α} (hx : has = true ∨ x = none) (hy : has = true ∨ y = none) :
    has = true ∨ x.or y = none := by
  rcases hx with h | rfl
  · exact .inl h
  · exact hy

theorem RecordOf.Items.stage (h : r.Items) (hfits : m.FitsKind r.kind) : RecordOf.Items (r.stage m.timing) :=
  { h with
    pendingA := or_ne_some_zero hfits.periodA h.pendingA
    pendingB := or_ne_some_zero hfits.periodB h.pendingB
    stagedB := or_eq_none hfits.hasPeriodB h.stagedB
    stagedRepeat := or_eq_none hfits.hasRepeat h.stagedRepeat }

theorem unstage_cases {α : Type} (written pending : Option α) : unstage written pending = none ∨ unstage written pending = pending := by
  cases written with
  | none => exact .inr rfl
  | some _ => exact .inl rfl

theorem unstage_ne {α : Type} {written pending : Option α} {x : α} (h : pending ≠ some x) : unstage written pending ≠ some x := by
  rcases unstage_cases written pending with hnone | hsame
  · rw [hnone]; exact nofun
  · rwa [hsame]

theorem unstage_eq_none {α : Type} {has : Bool} {written pending : Option α} (h : has = true ∨ pending = none) :
    has = true ∨ unstage written pending = none := by
  rcases unstage_cases written pending with hnone | hsame
  · exact .inr hnone
  · rwa [hsame]

theorem RecordOf.Items.write (h : r.Items) (hfits : m.FitsKind r.kind) : RecordOf.Items (r.write m.timing) :=
  { h with
    periodA := getD_ne_zero hfits.periodA h.periodA
    periodB := hasPeriodB_getD h.periodB hfits.periodB hfits.hasPeriodB
    repeatCount := getD_eq_zero h.repeatCount hfits.hasRepeat
    pendingA := unstage_ne h.pendingA
    pendingB := unstage_ne h.pendingB
    stagedB := unstage_eq_none h.stagedB
    stagedRepeat := unstage_eq_none h.stagedRepeat }

/-- A record that is timing counts its cycles from a Repeat count that is written (R21). -/
theorem RecordOf.InPhase.write (h : r.InPhase run phase) (ht : r.timing = .active run phase start due)
    (hfits : m.FitsKind r.kind) : RecordOf.InPhase (r.write m.timing) run phase := by
  refine { items := h.items.write hfits, cycles := ?_, cyclesPos := ?_, phase := h.phase }
  · cases hv : m.timing.repeatCount with
    | none => simpa [RecordOf.write, hv] using h.cycles
    | some n =>
      have hk : r.kind = .cadence := by
        rcases hfits.hasRepeat with hhas | hnone
        · cases hkind : r.kind <;> rw [hkind] at hhas <;> first | rfl | cases hhas
        · cases hv.symm.trans hnone
      simp [RecordOf.write, hv, ht, hk, cyclesOf_isSome]
  · cases hv : m.timing.repeatCount with
    | none => simpa [RecordOf.write, hv] using h.cyclesPos
    | some n =>
      simp only [RecordOf.write, hv, ht]
      exact cyclesOf_ne_zero n

/-- Writing no timing value changes nothing. -/
theorem RecordOf.write_none (r : Record) : RecordOf.write r Pending.none = r := rfl

theorem RecordOf.InPhase.modifyItems (h : r.InPhase run phase) (hfits : m.FitsKind r.kind) :
    RecordOf.InPhase (r.modifyItems m) run phase :=
  ⟨h.items.modifyItems hfits, h.cycles, h.cyclesPos, h.phase⟩

/-- Of a record that is within R4 to R6, one that differs in items alone is too when its items are. -/
theorem RecordOf.wf_of_items (h : r.wf = true) (hitems : r'.Items) (hk : r'.kind = r.kind) (ht : r'.timing = r.timing)
    (hperiods : ∀ run phase start due, r.timing = .active run phase start due → r'.period phase = r.period phase)
    (hrepeat : r'.repeatCount = r.repeatCount) (hleft : r'.cyclesLeft = r.cyclesLeft) : r'.wf = true := by
  have hphase {run : Run} {phase : Phase} (hin : r.InPhase run phase) : r'.InPhase run phase :=
    ⟨hitems, by rw [hleft, hk, hrepeat]; exact hin.cycles, by rw [hleft]; exact hin.cyclesPos, by rw [hk]; exact hin.phase⟩
  cases htiming : r.timing with
  | idle => exact (RecordOf.wf_idle_iff (ht.trans htiming)).mpr ⟨hitems, hleft.trans ((RecordOf.wf_idle_iff htiming).mp h).2⟩
  | paused => exact (RecordOf.wf_paused_iff (ht.trans htiming)).mpr (hphase ((RecordOf.wf_paused_iff htiming).mp h))
  | parked => exact (RecordOf.wf_parked_iff (ht.trans htiming)).mpr (hphase ((RecordOf.wf_parked_iff htiming).mp h))
  | active run phase start due =>
    obtain ⟨hin, hdue⟩ := (RecordOf.wf_active_iff htiming).mp h
    refine (RecordOf.wf_active_iff (ht.trans htiming)).mpr ⟨hphase hin, ?_⟩
    rw [hperiods _ _ _ _ htiming, hdue]

theorem RecordOf.wf_staged (h : r.wf = true) (hfits : m.FitsKind r.kind) : RecordOf.wf ((r.modifyItems m).stage m.timing) = true := by
  have hitems := RecordOf.Items.stage (m := m) ((RecordOf.Items.of_wf h).modifyItems hfits) hfits
  refine RecordOf.wf_of_items h hitems rfl rfl (fun _ phase _ _ _ => ?_) rfl rfl
  cases phase <;> rfl

theorem RecordOf.wf_written (h : r.wf = true) (hfits : m.FitsKind r.kind)
    (hidle : r.timing = .idle ∨ (∃ run phase start due, r.timing = .active run phase start due ∧ m.timing.period phase = none) ∨
      m.timing = Pending.none) : RecordOf.wf ((r.modifyItems m).write m.timing) = true := by
  have hitems := RecordOf.Items.write (m := m) ((RecordOf.Items.of_wf h).modifyItems hfits) hfits
  rcases hidle with ht | ⟨run, phase, start, due, ht, hnone⟩ | hnone
  · obtain ⟨-, hleft⟩ := (RecordOf.wf_idle_iff ht).mp h
    refine (RecordOf.wf_idle_iff (by exact ht)).mpr ⟨hitems, ?_⟩
    simp only [RecordOf.write, RecordOf.modifyItems, ht, hleft]
    cases m.timing.repeatCount <;> rfl
  · obtain ⟨hin, hdue⟩ := (RecordOf.wf_active_iff ht).mp h
    refine (RecordOf.wf_active_iff (by exact ht)).mpr ⟨(hin.modifyItems hfits).write ht hfits, ?_⟩
    rw [RecordOf.period_write, hnone, hdue]
    cases phase <;> rfl
  · rw [hnone, RecordOf.write_none]
    refine RecordOf.wf_of_items h ((RecordOf.Items.of_wf h).modifyItems hfits) rfl rfl (fun _ phase _ _ _ => ?_) rfl rfl
    cases phase <;> rfl

theorem RecordOf.wf_retimed (h : r.wf = true) (hfits : m.FitsKind r.kind) (ht : r.timing = .active run phase start due)
    {p : Period} (hp : m.timing.period phase = some p) :
    RecordOf.wf { (r.modifyItems m).write m.timing with timing := .active run phase start (start + ticks p) } = true := by
  obtain ⟨hin, -⟩ := (RecordOf.wf_active_iff ht).mp h
  have hperiod : RecordOf.period ((r.modifyItems m).write m.timing) phase = p := by rw [RecordOf.period_write, hp]; rfl
  have hmoved := RecordOf.wf_active (RecordOf.InPhase.write (m := m) (hin.modifyItems hfits) ht hfits) start
  rwa [hperiod] at hmoved

end

/-! ### Everything an operation makes of a record -/

theorem RecordOf.wf_stretched (h : r.wf = true) (held : Nat) (newNow : Time) : RecordOf.wf (r.stretched held newNow) = true := by
  unfold RecordOf.stretched
  cases ht : r.timing with
  | idle => exact h
  | paused => exact h
  | active run phase start due =>
    obtain ⟨hin, hdue⟩ := (RecordOf.wf_active_iff ht).mp h
    have hmoved := RecordOf.wf_active hin (start + BitVec.ofNat 32 held)
    rwa [add_right_comm, ← hdue] at hmoved
  | parked run phase remaining =>
    have hin := (RecordOf.wf_parked_iff ht).mp h
    have hmoved := RecordOf.wf_active hin (newNow + remaining - ticks (r.period phase))
    rwa [sub_add_cancel] at hmoved

theorem RecordOf.wf_unparked (h : r.wf = true) (frozen : Time) : RecordOf.wf (r.unparked frozen) = true := by
  unfold RecordOf.unparked
  cases ht : r.timing with
  | idle => exact h
  | paused => exact h
  | active => exact h
  | parked run phase remaining =>
    have hmoved := RecordOf.wf_active ((RecordOf.wf_parked_iff ht).mp h) (frozen + remaining - ticks (r.period phase))
    rwa [sub_add_cancel] at hmoved

/-- Whatever an operation makes of a record stays within R4 to R6. -/
theorem RecordOf.Becomes.wf (hbecomes : r.Becomes r') (h : r.wf = true) : r'.wf = true := by
  have hitems := RecordOf.Items.of_wf h
  cases hbecomes with
  | started t => exact RecordOf.wf_startedAt hitems t
  | stopped => exact RecordOf.wf_stopped hitems
  | paused ht remaining =>
    obtain ⟨hin, -⟩ := (RecordOf.wf_active_iff ht).mp h
    exact (RecordOf.wf_paused_iff rfl).mpr ⟨{ hitems with }, hin.cycles, hin.cyclesPos, hin.phase⟩
  | @continued run phase remaining ht t =>
    have hmoved := RecordOf.wf_active ((RecordOf.wf_paused_iff ht).mp h) (t + remaining - ticks (r.period phase))
    rwa [sub_add_cancel] at hmoved
  | expired ht hexpires => exact hexpires.wf ht ((RecordOf.wf_active_iff ht).mp h).1
  | faulted ht hk t => exact RecordOf.wf_restarted ((RecordOf.wf_active_iff ht).mp h).1 hk .lapsed t _
  | renewed ht hk t => exact RecordOf.wf_restarted ((RecordOf.wf_active_iff ht).mp h).1 hk .running t r.missCount
  | grouped group => exact RecordOf.wf_of_items h { hitems with } rfl rfl (fun _ phase _ _ _ => by cases phase <;> rfl) rfl rfl
  | triggered htrigger =>
    exact RecordOf.wf_of_items h { hitems with trigger := htrigger } rfl rfl (fun _ phase _ _ _ => by cases phase <;> rfl) rfl rfl
  | staged hm hc => exact RecordOf.wf_staged h (modifyItems_fitsKind hm hc)
  | written hm hc hidle => exact RecordOf.wf_written h (modifyItems_fitsKind hm hc) hidle
  | retimed hm hc ht hp => exact RecordOf.wf_retimed h (modifyItems_fitsKind hm hc) ht hp
  | stretched held newNow => exact RecordOf.wf_stretched h held newNow
  | unparked frozen => exact RecordOf.wf_unparked h frozen

theorem RecordOf.wf_of_reaches (hreach : Relation.ReflTransGen RecordOf.Becomes r r') (h : r.wf = true) : r'.wf = true := by
  induction hreach with
  | refl => exact h
  | tail _ hlast ih => exact hlast.wf ih

end

end Sys2Proof.Machine
end

-- ==== DEFINE: the record a body gives ====
section
/-! SUPPORT. When a DEFINE passes the BAD_FIELD tests (R5, R8), and which record it then gives. -/

namespace Sys2Proof.Machine

set_option Elab.async false

/-- The record that a DEFINE gives with these values of its bytes (R9). -/
def freshRecord (d : DefineBody) (kind : Kind) (priority : Fin 8) (notify : Notify) (consequence : Consequence)
    (holdPolicy : HoldPolicy) : Record :=
  { kind := kind, timing := .idle, periodA := d.periodA, periodB := d.periodB, repeatCount := d.repeatCount,
    cyclesLeft := none, pending := Pending.none, priority := priority, notify := notify, consequence := consequence,
    holdPolicy := holdPolicy, tag := d.tag, trigger := none, group := none, missCount := 0 }

/-- The BAD_FIELD tests as DEFINE makes them, one by one. -/
theorem definedRecord_eq_some_iff {d : DefineBody} {r : Record} :
    definedRecord d = some r ↔ ∃ kind priority notify consequence holdPolicy,
      (kindOf d.kind = some kind ∧ finOf 8 d.priority = some priority ∧ notifyOf d.notify = some notify ∧
        consequenceOf d.consequence = some consequence ∧ holdPolicyOf d.holdPolicy = some holdPolicy) ∧
      (d.periodA ≠ 0 ∧ kind.hasPeriodB = (d.periodB != 0) ∧ (kind.hasRepeat = true ∨ d.repeatCount = 0) ∧
        kind.admitsNotify notify = true) ∧
      r = freshRecord d kind priority notify consequence holdPolicy := by
  constructor
  · intro h
    unfold definedRecord at h
    split at h
    next kind priority notify consequence holdPolicy hk hp hn hc hh =>
      split at h
      · cases h
      next hA =>
      split at h
      · cases h
      next hB =>
      split at h
      · cases h
      next hR =>
      split at h
      · cases h
      next hN =>
      refine ⟨kind, priority, notify, consequence, holdPolicy, ⟨hk, hp, hn, hc, hh⟩, ⟨hA, by simpa using hB, ?_, by simpa using hN⟩,
        (Option.some.inj h).symm⟩
      by_cases hzero : d.repeatCount = 0
      · exact .inr hzero
      · exact .inl (by_contra fun hrep => hR (by simp_all))
    next => cases h
  · rintro ⟨kind, priority, notify, consequence, holdPolicy, ⟨hk, hp, hn, hc, hh⟩, ⟨hA, hB, hR, hN⟩, rfl⟩
    unfold definedRecord
    rw [hk, hp, hn, hc, hh]
    dsimp only
    rw [if_neg hA, if_neg (by simp [hB]), if_neg (by rcases hR with hR | hR <;> simp [hR]), if_neg (by simp [hN])]
    rfl

/-- A defined record is within R4 to R6 when its kind admits its consequence. -/
theorem definedRecord_wf {d : DefineBody} {r : Record} (h : definedRecord d = some r)
    (hc : r.kind.admitsConsequence r.consequence = true) : r.wf = true := by
  obtain ⟨kind, priority, notify, consequence, holdPolicy, -, ⟨hA, hB, hR, hN⟩, rfl⟩ := definedRecord_eq_some_iff.mp h
  refine (RecordOf.wf_idle_iff rfl).mpr ⟨?_, rfl⟩
  exact
    { periodA := hA, periodB := hB, repeatCount := hR, missCount := .inr rfl, notify := hN, consequence := hc,
      pendingA := nofun, pendingB := nofun, stagedB := .inr rfl, stagedRepeat := .inr rfl, trigger := .inr nofun }

end Sys2Proof.Machine
end

-- ==== Images: what holds of every image ====
section
/-! SUPPORT. A property of every image that the part may come to load: the snapshot in flight and what the banks hold. -/

namespace Sys2Proof.Machine

set_option Elab.async false

/-- The snapshot in flight and the contents of the banks satisfy `P`. -/
def PowerUnit.ImagesAll (p : PowerUnit) (P : Image → Prop) : Prop :=
  (∀ c, p.checkpoint = some c → P c.snapshot) ∧ ∀ (b : Fin 2) (st : StoredImage), p.store[b].content = some st → P st.image

theorem State.imagesSatisfy_iff {s : State} {p : Image → Bool} : s.imagesSatisfy p ↔ s.pr.ImagesAll fun img => p img = true := by
  simp only [State.imagesSatisfy, PowerUnit.ImagesAll, Option.all_eq_true]

section
variable {p q : PowerUnit} {P : Image → Prop}

/-- A power unit that holds the images of another, with or without its snapshot. -/
theorem PowerUnit.ImagesAll.of_store (h : p.ImagesAll P) (hc : q.checkpoint = none ∨ q.checkpoint = p.checkpoint)
    (hstore : q.store = p.store) : q.ImagesAll P := by
  refine ⟨fun c hq => ?_, fun b st hst => h.2 b st (by rwa [hstore] at hst)⟩
  rcases hc with hnone | hsame
  · cases hnone.symm.trans hq
  · exact h.1 c (hsame.symm.trans hq)

theorem PowerUnit.imagesAll_empty (hc : p.checkpoint = none ∨ ∀ c, p.checkpoint = some c → P c.snapshot)
    (hstore : p.store = Vector.replicate 2 emptyBank) : p.ImagesAll P := by
  refine ⟨fun c hsome => ?_, fun b st hst => ?_⟩
  · rcases hc with hnone | hall
    · cases hnone.symm.trans hsome
    · exact hall c hsome
  · simp [hstore, emptyBank] at hst

theorem PowerUnit.ImagesAll.invalidate (h : p.ImagesAll P) (b : Fin 2) : (p.invalidate b).ImagesAll P := by
  refine ⟨h.1, fun c st hst => h.2 c st ?_⟩
  by_cases hcb : c = b
  · subst hcb
    rwa [PowerUnit.store_invalidate] at hst
  · rwa [PowerUnit.store_invalidate_of_ne _ _ hcb] at hst

theorem PowerUnit.ImagesAll.written (h : p.ImagesAll P) (b : Fin 2) {img : Image} (himg : P img) : (p.written b img).ImagesAll P := by
  have hmarked : (p.marked b img).ImagesAll P := by
    refine ⟨h.1, fun c st hst => ?_⟩
    by_cases hcb : c = b
    · subst hcb
      rw [PowerUnit.store_marked] at hst
      cases hst
      exact himg
    · rw [PowerUnit.store_marked_of_ne _ _ _ hcb] at hst
      exact h.2 c st hst
  by_cases hwraps : p.Wraps (otherBank b)
  · rw [p.written_of_wraps b hwraps]; exact hmarked.invalidate _
  · rw [p.written_of_not_wraps b hwraps]; exact hmarked

end

section
variable {s : State} {P : Image → Prop}

theorem State.imagesAll_enterHold (h : s.pr.ImagesAll P) : s.enterHold.pr.ImagesAll P := by
  unfold State.enterHold
  dsimp only
  split
  · exact h.of_store (.inl rfl) rfl
  · exact (h.invalidate s.pr.target.1).of_store (.inr rfl) rfl

theorem State.imagesAll_enterRun (h : s.pr.ImagesAll P) : s.enterRun.pr.ImagesAll P := by
  unfold State.enterRun
  dsimp only
  split
  · exact State.imagesAll_enterHold (h.of_store (.inr rfl) rfl)
  · exact h.of_store (.inr rfl) rfl

theorem State.imagesAll_reconcile (h : s.pr.ImagesAll P) (origin : ResumeOrigin) (held : Nat) (unknown : Bool) :
    (s.reconcile origin held unknown).pr.ImagesAll P := by
  have hkeep := s.keeps_foldl _ (fun u i => u.keeps_treat s.td.now held unknown i) (s.visited origin)
  refine State.imagesAll_enterRun ?_
  exact hkeep.pr ▸ h

/-- A checkpoint adds its snapshot to the images (R160). -/
theorem State.imagesAll_takeCheckpoint (h : s.pr.ImagesAll P) (himg : ∀ g, P (s.image .checkpoint g)) :
    s.takeCheckpoint.state.pr.ImagesAll P := by
  unfold State.takeCheckpoint
  split
  · exact h
  · refine ⟨fun c hc => ?_, (h.invalidate s.pr.target.1).2⟩
    cases hc
    exact himg _

theorem State.imagesAll_checkpointComplete {c : CheckpointInFlight} (h : s.pr.ImagesAll P) (hc : s.pr.checkpoint = some c) :
    PowerUnit.ImagesAll { s.pr.written c.bank c.snapshot with checkpoint := none } P :=
  (h.written c.bank (h.1 c hc)).of_store (.inl rfl) rfl

/-- The hold save adds the image of the part (R153). -/
theorem State.imagesAll_holdSaved {f : SaveInFlight} (h : s.pr.ImagesAll P) (himg : P (s.image .holdSave f.generation)) :
    ((s.holdSaved f).withPower .parked).pr.ImagesAll P :=
  (h.written f.bank himg).of_store (.inr rfl) rfl

theorem State.imagesAll_discardImage (h : s.pr.ImagesAll P) : s.discardImage.state.pr.ImagesAll P :=
  State.imagesAll_enterRun ((h.invalidate 0).invalidate 1)

theorem State.imagesAll_clearPart (h : s.pr.ImagesAll P) : s.clearPart.state.pr.ImagesAll P := by
  unfold State.clearPart
  dsimp only
  split <;> exact h.of_store (.inl rfl) rfl

end

end Sys2Proof.Machine
end

-- ==== Records: every step keeps them ====
section
/-! SUPPORT. Every record of the table and of the images stays within R4 to R6 (R24, R152, R157), command by command. -/

namespace Sys2Proof.Machine

set_option Elab.async false

/-! ### Records of images -/

theorem RecordOf.savedWf_saved {r : Record} (h : r.wf = true) (t : Time) : (r.saved t).savedWf = true := by
  simp only [RecordOf.wf, Bool.and_eq_true] at h
  obtain ⟨hitems, htiming⟩ := h
  simp only [RecordOf.savedWf, Bool.and_eq_true]
  refine ⟨hitems, ?_⟩
  unfold RecordOf.saved
  cases ht : r.timing <;> rw [ht] at htiming
  case active =>
    rw [Bool.and_eq_true] at htiming
    exact htiming.1
  all_goals exact htiming

theorem RecordOf.wf_restored {r : SavedRecord} (h : r.savedWf = true) : r.restored.wf = true := by
  simp only [RecordOf.savedWf, Bool.and_eq_true] at h
  obtain ⟨hitems, htiming⟩ := h
  simp only [RecordOf.wf, Bool.and_eq_true]
  refine ⟨hitems, ?_⟩
  unfold RecordOf.restored
  cases ht : r.timing <;> rw [ht] at htiming <;> exact htiming

/-- Every record of an image is within R4 to R6. -/
def Image.Wf (img : Image) : Prop := ∀ (i : Fin 256) (r : SavedRecord), img.slots[i].record = some r → r.savedWf = true

/-- Every record of the table is within R4 to R6. -/
def State.TableWf (s : State) : Prop := ∀ (i : Fin 256) (r : Record), s.recordAt i = some r → r.wf = true

theorem State.recordsWf_iff {s : State} : s.recordsWf ↔ s.TableWf ∧ s.pr.ImagesAll Image.Wf := by
  simp only [State.recordsWf, State.imagesSatisfy_iff, State.TableWf, Image.recordsSatisfy, Option.all_eq_true,
    List.all_eq_true, List.mem_finRange, true_implies]
  exact Iff.rfl

section
variable {s u : State}

theorem State.TableWf.of_slots (h : s.TableWf) (hslots : u.slots = s.slots) : u.TableWf :=
  fun i r hr => h i r ((State.recordAt_of_slots hslots i).symm.trans hr)

theorem State.tableWf_of_free (h : ∀ i, s.recordAt i = none) : s.TableWf := fun i _ hr => nomatch (h i).symm.trans hr

theorem State.TableWf.acts (h : s.TableWf) (hacts : s.Acts u) : u.TableWf := by
  intro i r' hr'
  have hrel := hacts.records i
  rw [hr'] at hrel
  generalize hx : s.recordAt i = x at hrel
  cases hrel with
  | some hreach => exact RecordOf.wf_of_reaches hreach (h i _ hx)

/-- The image of a part is of its records (R157). -/
theorem State.TableWf.image (h : s.TableWf) (origin : Origin) (g : BitVec 32) : (s.image origin g).Wf := by
  intro i r hr
  have hrec : ((s.recordAt i).map fun r => r.saved s.td.now) = some r := by
    rw [← hr]
    simp [State.recordAt, State.image]
  obtain ⟨r₀, hr₀, rfl⟩ := Option.map_eq_some_iff.mp hrec
  exact RecordOf.savedWf_saved (h i r₀ hr₀) _

theorem State.tableWf_of_image {img : Image} (himg : img.Wf)
    (hs : s.slots = img.slots.map fun slot => ⟨slot.gen, slot.record.map fun r => r.restored⟩) : s.TableWf := by
  intro i r hr
  have hrec : (img.slots[i].record.map fun r => r.restored) = some r := by
    rw [← hr]
    simp [State.recordAt, hs]
  obtain ⟨r₀, hr₀, rfl⟩ := Option.map_eq_some_iff.mp hrec
  exact RecordOf.wf_restored (himg i r₀ hr₀)

theorem State.TableWf.reconcile (h : s.TableWf) (origin : ResumeOrigin) (held : Nat) (unknown : Bool) :
    (s.reconcile origin held unknown).TableWf :=
  (h.acts (State.acts_foldl (State.acts_treat s.td.now held unknown) (s.visited origin) s)).of_slots
    (State.slots_endReconciliation _ _ _ _ _)

theorem State.TableWf.define (h : s.TableWf) (d : DefineBody) : (s.define d).state.TableWf := by
  unfold State.define
  split
  · exact h
  next r hr =>
  split
  · exact h
  next hc =>
  split
  · exact h
  next i _ =>
  intro j r' hr'
  have hrec := s.recordAt_place i j r
  rw [hr'] at hrec
  split at hrec
  · cases hrec
    exact definedRecord_wf hr (by simpa using hc)
  · exact h j r' hrec.symm

theorem State.TableWf.retire (h : s.TableWf) (handle : Handle) : (s.retire handle).state.TableWf := by
  unfold State.retire
  split
  · exact h
  split
  · exact h
  intro j r' hr'
  have hrec := (s.dropEntry handle).recordAt_freeRecord handle.slot j
  rw [hr'] at hrec
  split at hrec
  · cases hrec
  · exact h j r' hrec.symm

theorem State.slots_routeOutput (s : State) (b : RouteBody) : (s.routeOutput b).state.slots = s.slots := by
  unfold State.routeOutput
  repeat' split
  all_goals rfl

theorem State.slots_takeCheckpoint (s : State) : s.takeCheckpoint.state.slots = s.slots := by
  unfold State.takeCheckpoint
  split <;> rfl

theorem State.slots_clearPart (s : State) : s.clearPart.state.slots = s.freeAll.slots := by
  unfold State.clearPart
  dsimp only
  split <;> rfl

end

theorem stepInvariant_recordsWf : StepInvariant State.recordsWf where
  inert h hinert := by
    obtain ⟨ht, hi⟩ := State.recordsWf_iff.mp h
    exact State.recordsWf_iff.mpr ⟨ht.of_slots hinert.slots, hi.of_store (.inr (by rw [hinert.pr])) (by rw [hinert.pr])⟩
  acts _ h _ hacts := by
    obtain ⟨ht, hi⟩ := State.recordsWf_iff.mp h
    exact State.recordsWf_iff.mpr ⟨ht.acts hacts, hacts.keeps.pr ▸ hi⟩
  beginLoading h hslots _ hstore := by
    obtain ⟨ht, hi⟩ := State.recordsWf_iff.mp h
    exact State.recordsWf_iff.mpr ⟨ht.of_slots hslots, hi.of_store (.inl rfl) hstore⟩
  supplyLost _ h := by
    obtain ⟨ht, hi⟩ := State.recordsWf_iff.mp h
    exact State.recordsWf_iff.mpr ⟨ht, hi.of_store (.inl rfl) rfl⟩
  storeLost _ h _ := by
    obtain ⟨ht, hi⟩ := State.recordsWf_iff.mp h
    exact State.recordsWf_iff.mpr ⟨ht, PowerUnit.imagesAll_empty (.inr hi.1) rfl⟩
  restore levels _ h _ hst := by
    obtain ⟨-, hi⟩ := State.recordsWf_iff.mp h
    exact State.recordsWf_iff.mpr ⟨State.tableWf_of_image (hi.2 _ _ hst) rfl, hi.of_store (.inr rfl) rfl⟩
  coldStart levels _ h _ := by
    obtain ⟨-, hi⟩ := State.recordsWf_iff.mp h
    refine State.recordsWf_iff.mpr ⟨State.TableWf.of_slots (State.tableWf_of_free fun i => ?_) (State.slots_enterRun _),
      State.imagesAll_enterRun hi⟩
    simp [State.recordAt, freeSlot]
  pwarnAsserted _ h _ := by
    obtain ⟨ht, hi⟩ := State.recordsWf_iff.mp h
    exact State.recordsWf_iff.mpr ⟨ht.of_slots (State.slots_enterHold _), State.imagesAll_enterHold (hi.of_store (.inr rfl) rfl)⟩
  holdSaved _ h _ := by
    obtain ⟨ht, hi⟩ := State.recordsWf_iff.mp h
    exact State.recordsWf_iff.mpr ⟨ht, State.imagesAll_holdSaved hi (ht.image _ _)⟩
  brownout _ h _ := by
    obtain ⟨ht, hi⟩ := State.recordsWf_iff.mp h
    exact State.recordsWf_iff.mpr ⟨ht.reconcile _ _ _, State.imagesAll_reconcile hi _ _ _⟩
  checkpointComplete _ h _ hc := by
    obtain ⟨ht, hi⟩ := State.recordsWf_iff.mp h
    exact State.recordsWf_iff.mpr ⟨ht, State.imagesAll_checkpointComplete hi hc⟩
  define d _ h _ := by
    obtain ⟨ht, hi⟩ := State.recordsWf_iff.mp h
    exact State.recordsWf_iff.mpr ⟨ht.define d, by rwa [State.pr_define]⟩
  retire handle _ h _ := by
    obtain ⟨ht, hi⟩ := State.recordsWf_iff.mp h
    exact State.recordsWf_iff.mpr ⟨ht.retire handle, by rwa [State.pr_retire]⟩
  route b _ h _ := by
    obtain ⟨ht, hi⟩ := State.recordsWf_iff.mp h
    exact State.recordsWf_iff.mpr ⟨ht.of_slots (State.slots_routeOutput _ b), by rwa [State.pr_routeOutput]⟩
  clear _ h _ := by
    obtain ⟨-, hi⟩ := State.recordsWf_iff.mp h
    exact State.recordsWf_iff.mpr ⟨State.TableWf.of_slots (State.tableWf_of_free (State.recordAt_freeAll _)) (State.slots_clearPart _),
      State.imagesAll_clearPart hi⟩
  checkpoint _ h _ := by
    obtain ⟨ht, hi⟩ := State.recordsWf_iff.mp h
    exact State.recordsWf_iff.mpr ⟨ht.of_slots (State.slots_takeCheckpoint _), State.imagesAll_takeCheckpoint hi fun g => ht.image _ g⟩
  resume held unknown _ h _ := by
    obtain ⟨ht, hi⟩ := State.recordsWf_iff.mp h
    exact State.recordsWf_iff.mpr ⟨ht.reconcile _ _ _, State.imagesAll_reconcile hi _ _ _⟩
  discard _ h _ := by
    obtain ⟨-, hi⟩ := State.recordsWf_iff.mp h
    exact State.recordsWf_iff.mpr ⟨State.TableWf.of_slots (State.tableWf_of_free (State.recordAt_freeAll _)) (State.slots_enterRun _),
      State.imagesAll_discardImage hi⟩

/-- Settles O55: everything an operation makes of a record stays within R4 to R6, and an image is of such records. -/
theorem recordsKept : Obligations.RecordsKept := fun _ _ hm h hstep => stepInvariant_recordsWf.step hm h hstep

end Sys2Proof.Machine
end

-- ==== Handles: every step keeps them naming records ====
section
/-! SUPPORT. No route and no record entry ever names a slot without its record (R11, R119, R145), command by command. -/

namespace Sys2Proof.Machine

set_option Elab.async false

/-- Every handle of the image's routes names a record of the image. -/
def Image.Named (img : Image) : Prop :=
  ∀ (o : Fin 16) (h : Handle), h ∈ img.routes[o].source.handles → img.names h = true

/-- Every handle of the route table names a record. -/
def State.RoutesNamed (s : State) : Prop :=
  ∀ (o : Fin 16) (h : Handle), h ∈ s.ou.routes[o].source.handles → (s.recordOf h).isSome = true

/-- Every handle of the queue's record entries names a record. -/
def State.EntriesNamed (s : State) : Prop :=
  ∀ e ∈ s.nq.entries, ∀ h : Handle, e.subject = .inl h → (s.recordOf h).isSome = true

/-- Every handle of the routes and of the queue names a record. -/
structure State.Named (s : State) : Prop where
  routes : s.RoutesNamed
  entries : s.EntriesNamed

theorem State.handlesWf_iff {s : State} : s.handlesWf ↔ s.Named ∧ s.pr.ImagesAll Image.Named := by
  have himages : (fun img => ((List.finRange 16).all fun o => img.routes[o].source.handles.all fun h => img.names h) = true) =
      Image.Named := by
    funext img
    simp [Image.Named]
  have hroutes : (∀ o : Fin 16, (s.ou.routes[o].source.handles.all fun h => (s.recordOf h).isSome) = true) ↔ s.RoutesNamed := by
    simp [State.RoutesNamed]
  have hentries : (∀ e ∈ s.nq.entries, (e.handle?.all fun h => (s.recordOf h).isSome) = true) ↔ s.EntriesNamed := by
    simp only [State.EntriesNamed, Option.all_eq_true, Entry.handle?_eq_some_iff]
  unfold State.handlesWf
  rw [hroutes, hentries, State.imagesSatisfy_iff, himages]
  exact ⟨fun ⟨hr, he, hi⟩ => ⟨⟨hr, he⟩, hi⟩, fun ⟨⟨hr, he⟩, hi⟩ => ⟨hr, he, hi⟩⟩

section
variable {s u : State}

/-! ### Postings -/

theorem State.recordOf_of_slots (h : u.slots = s.slots) (handle : Handle) : u.recordOf handle = s.recordOf handle := by
  simp only [State.recordOf, h]

/-- Every name stays when the same handles name records and only these are posted for. -/
theorem State.Named.posted (h : s.Named) (hroutes : u.ou.routes = s.ou.routes) (hposts : s.Posts u)
    (hrec : ∀ handle, (u.recordOf handle).isSome = (s.recordOf handle).isSome) : u.Named where
  routes o handle hmem := by
    rw [hroutes] at hmem
    rw [hrec]
    exact h.routes o handle hmem
  entries e he handle hsub := by
    rw [hrec]
    rcases hposts e he handle hsub with ⟨e', he', hsub'⟩ | hnames
    · exact h.entries e' he' handle hsub'
    · exact hnames

theorem State.Named.acts (h : s.Named) (hacts : s.Acts u) : u.Named := h.posted hacts.keeps.routes hacts.posts hacts.recordOf

theorem State.Named.of_slots (h : s.Named) (hslots : u.slots = s.slots) (hroutes : u.ou.routes = s.ou.routes) (hposts : s.Posts u) :
    u.Named := h.posted hroutes hposts fun handle => by rw [State.recordOf_of_slots hslots]

theorem State.Named.postSystem (h : s.Named) (info : SystemInfo) (t : Time) : (s.postSystem info t).Named :=
  h.of_slots rfl rfl (s.posts_postSystem info t)

theorem State.Named.enterHold (h : s.Named) : s.enterHold.Named := by
  unfold State.enterHold
  dsimp only
  split
  · refine State.Named.postSystem ?_ _ _
    exact h.of_slots rfl rfl (.of_entries rfl)
  · exact h.of_slots rfl rfl (.of_entries rfl)

theorem State.Named.enterRun (h : s.Named) : s.enterRun.Named := by
  have hrun : State.Named { s with td := { s.td with divider := 0 }, pr := { s.pr with power := .run } } :=
    h.of_slots rfl rfl (.of_entries rfl)
  unfold State.enterRun
  dsimp only
  split
  · exact hrun.enterHold
  · exact hrun

theorem State.Named.endReconciliation (h : s.Named) (origin : ResumeOrigin) (held : Nat) (newNow : Time) (visited : Nat) :
    (s.endReconciliation origin held newNow visited).Named := by
  have hposts := s.posts_postSystem (.resumed held origin s.lu.ignored visited) newNow
  unfold State.endReconciliation
  refine State.Named.enterRun (h.of_slots rfl rfl ?_)
  exact hposts

theorem State.Named.reconcile (h : s.Named) (origin : ResumeOrigin) (held : Nat) (unknown : Bool) :
    (s.reconcile origin held unknown).Named :=
  (h.acts (State.acts_foldl (State.acts_treat s.td.now held unknown) (s.visited origin) s)).endReconciliation _ _ _ _

/-! ### Emptied parts and images -/

/-- The cold routes name no record (R115). -/
theorem State.named_of_cold (hroutes : s.ou.routes = Vector.replicate 16 coldRoute)
    (hentries : ∀ e ∈ s.nq.entries, ∀ h : Handle, e.subject ≠ .inl h) : s.Named where
  routes o handle hmem := by simp [hroutes, coldRoute, Source.handles] at hmem
  entries e he handle hsub := absurd hsub (hentries e he handle)

/-- The records of an image are those of the part (R157). -/
theorem State.names_image (s : State) (origin : Origin) (g : BitVec 32) (h : Handle) :
    (s.image origin g).names h = (s.recordOf h).isSome := by
  simp only [Image.names, State.image, State.recordOf, Fin.getElem_fin, Vector.getElem_map, Option.isSome_map]
  split
  next hgen => simp [hgen]
  next hgen => simp [hgen]

theorem State.Named.image (h : s.Named) (origin : Origin) (g : BitVec 32) : (s.image origin g).Named := fun o handle hmem => by
  rw [State.names_image]
  exact h.routes o handle hmem

theorem State.recordOf_of_image {img : Image}
    (hs : s.slots = img.slots.map fun slot => ⟨slot.gen, slot.record.map fun r => r.restored⟩) (h : Handle) :
    (s.recordOf h).isSome = img.names h := by
  simp only [Image.names, State.recordOf, hs, Fin.getElem_fin, Vector.getElem_map]
  split
  next hgen => simp [hgen]
  next hgen => simp [hgen]

/-- A restored part names what its image names (R24). -/
theorem State.named_restore {img : Image} (himg : img.Named) (hempty : s.nq.entries = []) (levels : BitVec 8) :
    (s.restore img levels).Named := by
  refine State.Named.postSystem ⟨fun o handle hmem => ?_, fun e he => ?_⟩ _ _
  · rw [State.recordOf_of_image rfl]
    exact himg o handle hmem
  · cases hempty ▸ he

/-! ### The table's requests -/

/-- A record placed in a FREE slot leaves every handle that names a record naming it. -/
theorem State.recordOf_place {i : Fin 256} (hfree : s.recordAt i = none) (r : Record) {h : Handle}
    (hnames : (s.recordOf h).isSome = true) : ((s.place i r).recordOf h).isSome = true := by
  obtain ⟨x, hx⟩ := Option.isSome_iff_exists.mp hnames
  have hslot : i ≠ h.slot := by
    rintro rfl
    cases hfree.symm.trans (State.recordAt_of_recordOf hx)
  have hkept : (s.place i r).recordOf h = s.recordOf h := by
    simp only [State.recordOf, State.place, Fin.getElem_fin, Vector.getElem_set_ne _ _ (Fin.val_ne_of_ne hslot)]
  rwa [hkept]

theorem State.Named.define (h : s.Named) (d : DefineBody) : (s.define d).state.Named := by
  unfold State.define
  split
  · exact h
  split
  · exact h
  split
  · exact h
  next i hi =>
  have hfree : s.recordAt i = none := by simpa using List.find?_some (show List.find? _ _ = some i from hi)
  exact ⟨fun o handle hmem => State.recordOf_place hfree _ (h.routes o handle hmem),
    fun e he handle hsub => State.recordOf_place hfree _ (h.entries e he handle hsub)⟩

/-- Another handle than that of a freed record names what it named. -/
theorem State.recordOf_freeRecord {h h' : Handle} {r : Record} (hr : s.recordOf h = some r) (hne : h' ≠ h)
    (hnames : (s.recordOf h').isSome = true) : ((s.freeRecord h.slot).recordOf h').isSome = true := by
  have hgen : s.slots[h.slot].gen = h.gen := ((s.recordOf_eq_some h r).mp hr).1
  obtain ⟨x, hx⟩ := Option.isSome_iff_exists.mp hnames
  have hgen' : s.slots[h'.slot].gen = h'.gen := ((s.recordOf_eq_some h' x).mp hx).1
  have hslot : h.slot ≠ h'.slot := by
    intro hsame
    refine hne ?_
    obtain ⟨slot, gen⟩ := h
    obtain ⟨slot', gen'⟩ := h'
    obtain rfl : slot = slot' := hsame
    obtain rfl : gen = gen' := hgen.symm.trans hgen'
    rfl
  have hkept : (s.freeRecord h.slot).recordOf h' = s.recordOf h' := by
    simp only [State.recordOf, State.freeRecord, Fin.getElem_fin, Vector.getElem_set_ne _ _ (Fin.val_ne_of_ne hslot)]
  rwa [hkept]

theorem Source.mem_handles_iff (source : Source) (h : Handle) : h ∈ source.handles ↔ source.names h = true := by
  cases source <;> simp [Source.handles, Source.names, eq_comm (a := h)]

theorem State.Named.retire (h : s.Named) (handle : Handle) : (s.retire handle).state.Named := by
  unfold State.retire
  split
  · exact h
  next r hr =>
  split
  · exact h
  next hunrouted =>
  have hroutes := List.find?_eq_none.mp hunrouted
  refine ⟨fun o h' hmem => ?_, fun e he h' hsub => ?_⟩
  · refine State.recordOf_freeRecord (s := s) hr ?_ (h.routes o h' hmem)
    rintro rfl
    exact hroutes o (List.mem_finRange o) ((Source.mem_handles_iff _ _).mp hmem)
  · obtain ⟨hmem, hother⟩ := List.mem_filter.mp he
    refine State.recordOf_freeRecord (s := s) hr ?_ (h.entries e hmem h' hsub)
    rintro rfl
    simp [(e.isOf_iff h').mpr hsub] at hother

/-- The source that ROUTE writes names records: its handles were tested first (R117). -/
theorem State.named_routeSource {type : SourceType} {b : RouteBody} {source : Source} (hgood : s.badRouteHandle type b = none)
    (hsource : routeSource type b = some source) {h : Handle} (hmem : h ∈ source.handles) : (s.recordOf h).isSome = true := by
  unfold routeSource at hsource
  cases type <;> obtain ⟨x, -, rfl⟩ := Option.map_eq_some_iff.mp hsource
  case static => cases hmem
  case record =>
    obtain rfl := List.mem_singleton.mp hmem
    simpa [State.badRouteHandle, Option.isSome_iff_ne_none] using hgood
  case pair =>
    have hboth : (s.recordOf b.a).isSome = true ∧ (s.recordOf b.b).isSome = true := by
      simp only [State.badRouteHandle] at hgood
      split at hgood
      · cases hgood
      next ha =>
      split at hgood
      · cases hgood
      next hb =>
      exact ⟨by simpa [Option.isSome_iff_ne_none] using ha, by simpa [Option.isSome_iff_ne_none] using hb⟩
    rcases List.mem_pair.mp hmem with rfl | rfl
    · exact hboth.1
    · exact hboth.2

theorem State.Named.routeOutput (h : s.Named) (b : RouteBody) : (s.routeOutput b).state.Named := by
  unfold State.routeOutput
  split
  · exact h
  split
  · exact h
  next hgood =>
  split
  next o safeLevel source _ _ hsource =>
    refine ⟨fun o' handle hmem => ?_, h.entries⟩
    show (s.recordOf handle).isSome = true
    simp only [Fin.getElem_fin, Vector.getElem_set] at hmem
    split at hmem
    · exact State.named_routeSource hgood hsource hmem
    · exact h.routes o' handle hmem
  next => exact h

theorem State.named_clearPart (s : State) : s.clearPart.state.Named := by
  unfold State.clearPart
  dsimp only
  split
  · exact State.Named.postSystem (State.named_of_cold rfl fun _ he => (List.not_mem_nil he).elim) _ _
  · exact State.named_of_cold rfl fun _ he => (List.not_mem_nil he).elim

theorem State.named_discardImage (hm : s.modesWf) (hp : s.pr.power = .recovered) : s.discardImage.state.Named := by
  obtain ⟨-, -, -, he⟩ := (State.modesWf_recovered_iff hp).mp hm
  refine State.Named.enterRun (State.Named.postSystem (State.named_of_cold rfl fun e hmem h hsub => ?_) _ _)
  cases (he e hmem).symm.trans ((e.handle?_eq_some_iff h).mpr hsub)

theorem State.named_coldStart (hm : s.modesWf) (hp : s.pr.power = .loading) (levels : BitVec 8) : (s.coldStart levels).Named := by
  obtain ⟨-, he, -, -⟩ := (State.modesWf_loading_iff hp).mp hm
  refine State.Named.enterRun (State.Named.postSystem (State.named_of_cold rfl fun e hmem => ?_) _ _)
  have hnil : e ∈ s.nq.entries := hmem
  simp [he] at hnil

end

theorem stepInvariant_handlesWf : StepInvariant State.handlesWf where
  inert h hinert := by
    obtain ⟨hn, hi⟩ := State.handlesWf_iff.mp h
    exact State.handlesWf_iff.mpr ⟨hn.of_slots hinert.slots hinert.routes fun e he _ hsub => .inl ⟨e, hinert.entries he, hsub⟩,
      hi.of_store (.inr (by rw [hinert.pr])) (by rw [hinert.pr])⟩
  acts _ h _ hacts := by
    obtain ⟨hn, hi⟩ := State.handlesWf_iff.mp h
    exact State.handlesWf_iff.mpr ⟨hn.acts hacts, hacts.keeps.pr ▸ hi⟩
  beginLoading h hslots hroutes hstore := by
    obtain ⟨hn, hi⟩ := State.handlesWf_iff.mp h
    exact State.handlesWf_iff.mpr ⟨hn.of_slots hslots hroutes nofun, hi.of_store (.inl rfl) hstore⟩
  supplyLost _ h := by
    obtain ⟨hn, hi⟩ := State.handlesWf_iff.mp h
    exact State.handlesWf_iff.mpr ⟨hn.of_slots rfl rfl (.of_entries rfl), hi.of_store (.inl rfl) rfl⟩
  storeLost _ h _ := by
    obtain ⟨hn, hi⟩ := State.handlesWf_iff.mp h
    exact State.handlesWf_iff.mpr ⟨hn.of_slots rfl rfl (.of_entries rfl), PowerUnit.imagesAll_empty (.inr hi.1) rfl⟩
  restore levels hm h hp hst := by
    obtain ⟨-, hi⟩ := State.handlesWf_iff.mp h
    obtain ⟨-, he, -, -⟩ := (State.modesWf_loading_iff hp).mp hm
    exact State.handlesWf_iff.mpr ⟨State.named_restore (hi.2 _ _ hst) he levels, hi.of_store (.inr rfl) rfl⟩
  coldStart levels hm h hp := by
    obtain ⟨-, hi⟩ := State.handlesWf_iff.mp h
    exact State.handlesWf_iff.mpr ⟨State.named_coldStart hm hp levels, State.imagesAll_enterRun hi⟩
  pwarnAsserted _ h _ := by
    obtain ⟨hn, hi⟩ := State.handlesWf_iff.mp h
    exact State.handlesWf_iff.mpr ⟨State.Named.enterHold (hn.of_slots rfl rfl (.of_entries rfl)),
      State.imagesAll_enterHold (hi.of_store (.inr rfl) rfl)⟩
  holdSaved _ h _ := by
    obtain ⟨hn, hi⟩ := State.handlesWf_iff.mp h
    exact State.handlesWf_iff.mpr ⟨hn.of_slots rfl rfl (.of_entries rfl), State.imagesAll_holdSaved hi (hn.image _ _)⟩
  brownout _ h _ := by
    obtain ⟨hn, hi⟩ := State.handlesWf_iff.mp h
    exact State.handlesWf_iff.mpr ⟨hn.reconcile _ _ _, State.imagesAll_reconcile hi _ _ _⟩
  checkpointComplete _ h _ hc := by
    obtain ⟨hn, hi⟩ := State.handlesWf_iff.mp h
    refine State.handlesWf_iff.mpr ⟨State.Named.postSystem ?_ _ _, State.imagesAll_checkpointComplete hi hc⟩
    exact hn.of_slots rfl rfl (.of_entries rfl)
  define d _ h _ := by
    obtain ⟨hn, hi⟩ := State.handlesWf_iff.mp h
    exact State.handlesWf_iff.mpr ⟨hn.define d, by rwa [State.pr_define]⟩
  retire handle _ h _ := by
    obtain ⟨hn, hi⟩ := State.handlesWf_iff.mp h
    exact State.handlesWf_iff.mpr ⟨hn.retire handle, by rwa [State.pr_retire]⟩
  route b _ h _ := by
    obtain ⟨hn, hi⟩ := State.handlesWf_iff.mp h
    exact State.handlesWf_iff.mpr ⟨hn.routeOutput b, by rwa [State.pr_routeOutput]⟩
  clear _ h _ := by
    obtain ⟨-, hi⟩ := State.handlesWf_iff.mp h
    exact State.handlesWf_iff.mpr ⟨State.named_clearPart _, State.imagesAll_clearPart hi⟩
  checkpoint {s} _ h _ := by
    obtain ⟨hn, hi⟩ := State.handlesWf_iff.mp h
    refine State.handlesWf_iff.mpr ⟨?_, State.imagesAll_takeCheckpoint hi fun g => hn.image _ g⟩
    unfold State.takeCheckpoint
    split <;> exact hn.of_slots rfl rfl (.of_entries rfl)
  resume held unknown _ h _ := by
    obtain ⟨hn, hi⟩ := State.handlesWf_iff.mp h
    exact State.handlesWf_iff.mpr ⟨hn.reconcile _ _ _, State.imagesAll_reconcile hi _ _ _⟩
  discard hm h hp := by
    obtain ⟨-, hi⟩ := State.handlesWf_iff.mp h
    exact State.handlesWf_iff.mpr ⟨State.named_discardImage hm hp, State.imagesAll_discardImage hi⟩

/-- Settles O59: a handle that names a record goes on naming it until RETIRE, which looks for it in the routes and the queue, or until
everything that could name it is emptied with the table. -/
theorem handlesKept : Obligations.HandlesKept := fun _ _ hm h hstep => stepInvariant_handlesWf.step hm h hstep

end Sys2Proof.Machine
end

-- ==== Outputs: what they drive ====
section
/-! SUPPORT. Signal, the route values and the driven levels (R7, R116, R120), case by case. -/

namespace Sys2Proof.Machine

set_option Elab.async false

theorem RecordOf.signal_iff (r : Record) : r.signal = true ↔ r.timing.state = .running ∧
    (r.kind = .oneshot ∨ r.kind = .supervise ∨ ∃ (run : Run) (start due : Time), r.timing = .active run .b start due) := by
  unfold RecordOf.signal
  cases ht : r.timing with
  | idle | paused | parked => simp [Timing.state]
  | active run phase start due =>
    cases run with
    | lapsed => simp [Timing.state]
    | running => cases hk : r.kind <;> cases phase <;> simp [Timing.state]

theorem State.signalOf_eq {s : State} {h : Handle} {r : Record} (hr : s.recordOf h = some r) : s.signalOf h = r.signal := by
  simp only [State.signalOf, hr]

/-- Settles O41: the table of R120, with the route values of R116 and the Signals of R7 behind RUN's. -/
theorem outputsDriven : Obligations.OutputsDriven := by
  refine ⟨RecordOf.signal_iff, fun _ _ => rfl, fun s a x ha => ?record, fun s a b x y ha hb => ?pair, fun s o => ?driven⟩
  case record => simp [State.routeValue, State.signalOf_eq ha]
  case pair => simp [State.routeValue, PairOp.apply, State.signalOf_eq ha, State.signalOf_eq hb]
  case driven =>
    refine ⟨fun hp => ?_, fun hp => ?_, fun hp hsafe => ?_, fun hp hsafe => ?_⟩
    · simp only [State.driven, hp]
    · rcases hp with hp | hp | hp <;> simp only [State.driven, hp]
    · simp only [State.driven, hp, if_pos (Option.isSome_iff_ne_none.mpr hsafe)]
    · simp [State.driven, hp, hsafe]

end Sys2Proof.Machine
end

-- ==== Handles that name nothing ====
section
/-! SUPPORT. Every owner of a request with a handle tests the handle first (R2, R3, R43, R117). -/

namespace Sys2Proof.Machine

set_option Elab.async false

section
variable {s : State} {h : Handle}

theorem State.retire_badHandle (hr : s.recordOf h = none) : s.retire h = ⟨s, .badHandle, []⟩ := by
  simp only [State.retire, hr, refuse]

theorem State.query_badHandle (hr : s.recordOf h = none) : s.query h = ⟨s, .badHandle, []⟩ := by
  simp only [State.query, hr, refuse]

theorem State.modify_badHandle (hr : s.recordOf h = none) (m : ModifyBody) : s.modify h m = ⟨s, .badHandle, []⟩ := by
  simp only [State.modify, hr, refuse]

theorem State.startRecord_badHandle (hr : s.recordOf h = none) : s.startRecord h = ⟨s, .badHandle, []⟩ := by
  simp only [State.startRecord, hr, refuse]

theorem State.stopRecord_badHandle (hr : s.recordOf h = none) : s.stopRecord h = ⟨s, .badHandle, []⟩ := by
  simp only [State.stopRecord, hr, refuse]

theorem State.restartRecord_badHandle (hr : s.recordOf h = none) : s.restartRecord h = ⟨s, .badHandle, []⟩ := by
  simp only [State.restartRecord, hr, refuse]

theorem State.pauseRecord_badHandle (hr : s.recordOf h = none) : s.pauseRecord h = ⟨s, .badHandle, []⟩ := by
  simp only [State.pauseRecord, hr, refuse]

theorem State.continueRecord_badHandle (hr : s.recordOf h = none) : s.continueRecord h = ⟨s, .badHandle, []⟩ := by
  simp only [State.continueRecord, hr, refuse]

/-- QUERY's handle is tested in every power state but LOADING (R150). -/
theorem State.exec_query_badHandle {p : PowerState} {seq : Byte} (hready : s.ready p seq) (hr : s.recordOf h = none) :
    exec (.query seq h) s = .next (s.answering seq .badHandle []) :=
  State.exec_of_always (owner := fun u => u.query h) (fun _ => rfl) hready (State.query_badHandle (s := s.endFrame) hr)

/-! ### The handles of a ROUTE -/

variable {b : RouteBody}

theorem State.routeOutput_badType (htype : 2 < b.sourceType.toNat) : s.routeOutput b = ⟨s, .badField, []⟩ := by
  have hnone : sourceTypeOf b.sourceType = none := by
    unfold sourceTypeOf
    split
    case h_4 => rfl
    all_goals omega
  simp only [State.routeOutput, hnone, refuse]

theorem State.routeOutput_badHandle {type : SourceType} {which : Byte} (htype : sourceTypeOf b.sourceType = some type)
    (hwhich : s.badRouteHandle type b = some which) : s.routeOutput b = ⟨s, .badHandle, [which]⟩ := by
  simp only [State.routeOutput, htype, hwhich, refuse]

theorem State.routeOutput_badFirst (htype : b.sourceType = 1 ∨ b.sourceType = 2) (ha : s.recordOf b.a = none) :
    s.routeOutput b = ⟨s, .badHandle, [0]⟩ := by
  rcases htype with htype | htype
  · exact State.routeOutput_badHandle (type := .record) (by rw [htype]; rfl) (by simp [State.badRouteHandle, ha])
  · exact State.routeOutput_badHandle (type := .pair) (by rw [htype]; rfl) (by simp [State.badRouteHandle, ha])

theorem State.routeOutput_badSecond (htype : b.sourceType = 2) (ha : (s.recordOf b.a).isSome = true) (hb : s.recordOf b.b = none) :
    s.routeOutput b = ⟨s, .badHandle, [1]⟩ :=
  State.routeOutput_badHandle (type := .pair) (by rw [htype]; rfl)
    (by simp [State.badRouteHandle, hb, Option.isSome_iff_ne_none.mp ha])

end

/-- Settles O12: each request's owner by its own first test, and ROUTE's tests in R117's order. -/
theorem badHandleRefused : Obligations.BadHandleRefused := by
  refine ⟨fun s seq h m x y i hready hr hi => ?requests, fun s p seq h hready hr => State.exec_query_badHandle hready hr,
    fun s seq b hready => ⟨fun htype => ?type, fun htype ha => ?first, fun htype ha hb => ?second⟩⟩
  case requests =>
    have hquery := State.exec_query_badHandle hready hr
    rw [← s.recordOf_endFrame] at hr
    have refused {c : Instr} {owner : State → Answer} (hc : ∀ s : State, exec c s = s.request seq .run owner)
        (howner : owner s.endFrame = ⟨s.endFrame, .badHandle, []⟩) : exec c s = .next (s.answering seq .badHandle []) :=
      State.exec_of_owner hc hready howner
    simp only [List.mem_cons, List.not_mem_nil, or_false] at hi
    rcases hi with rfl | rfl | rfl | rfl | rfl | rfl | rfl | rfl | rfl | rfl | rfl | rfl | rfl
    · exact refused (fun _ => rfl) (State.retire_badHandle hr)
    · exact hquery
    · exact refused (fun _ => rfl) (State.modify_badHandle hr m)
    · exact refused (fun _ => rfl) (State.startRecord_badHandle hr)
    · exact refused (fun _ => rfl) (State.stopRecord_badHandle hr)
    · exact refused (fun _ => rfl) (State.restartRecord_badHandle hr)
    · exact refused (fun _ => rfl) (State.pauseRecord_badHandle hr)
    · exact refused (fun _ => rfl) (State.continueRecord_badHandle hr)
    · exact refused (fun _ => rfl) (State.renew_badHandle hr)
    · exact refused (fun _ => rfl) (State.joinGroup_badHandle hr)
    · exact refused (fun _ => rfl) (State.leaveGroup_badHandle hr)
    · exact refused (fun _ => rfl) (State.bindRecord_badHandle hr)
    · exact refused (fun _ => rfl) (State.unbindRecord_badHandle hr)
  case type => exact State.exec_of_owner (fun _ => rfl) hready (State.routeOutput_badType htype)
  case first => exact State.exec_of_owner (fun _ => rfl) hready (State.routeOutput_badFirst (s := s.endFrame) htype ha)
  case second => exact State.exec_of_owner (fun _ => rfl) hready (State.routeOutput_badSecond (s := s.endFrame) htype ha hb)

end Sys2Proof.Machine
end

-- ==== RETIRE ====
section
/-! SUPPORT. Which route turns a RETIRE away, and what a RETIRE leaves (R10, R11). -/

namespace Sys2Proof.Machine

set_option Elab.async false

section
variable {s : State} {h : Handle} {r : Record}

/-- The lowest number that passes a test. -/
theorem find?_finRange_eq_some {n : Nat} {p : Fin n → Bool} {i : Fin n} (hi : p i = true) (hlowest : ∀ j, j < i → p j = false) :
    (List.finRange n).find? p = some i := by
  rw [← Fin.find?_eq_find?_finRange]
  exact Fin.find?_eq_some_iff.mpr ⟨hi, hlowest⟩

/-- The lowest-numbered output that names the handle. -/
theorem State.routedBy_eq_some {o : Fin 16} (ho : h ∈ s.ou.routes[o].source.handles)
    (hlowest : ∀ o' : Fin 16, o' < o → h ∉ s.ou.routes[o'].source.handles) : s.routedBy h = some o :=
  find?_finRange_eq_some ((Source.mem_handles_iff _ _).mp ho) fun o' hlt =>
    Bool.eq_false_iff.mpr fun hnames => hlowest o' hlt ((Source.mem_handles_iff _ _).mpr hnames)

theorem State.routedBy_eq_none (hnone : ∀ o : Fin 16, h ∉ s.ou.routes[o].source.handles) : s.routedBy h = none :=
  List.find?_eq_none.mpr fun o _ hnames => hnone o ((Source.mem_handles_iff _ _).mpr hnames)

theorem State.retire_inUse {o : Fin 16} (hr : s.recordOf h = some r) (ho : s.routedBy h = some o) :
    s.retire h = ⟨s, .inUse, [BitVec.ofNat 8 o.val]⟩ := by
  simp only [State.retire, hr, ho, refuse]

theorem Entry.isOf_eq (e : Entry) (h : Handle) : e.isOf h = (e.handle? == some h) := by
  rw [Bool.eq_iff_iff, e.isOf_iff, beq_iff_eq, e.handle?_eq_some_iff]

/-- The part that a RETIRE leaves: the slot FREE with its generation, and the record's entry gone. -/
theorem State.retire_eq (hr : s.recordOf h = some r) (hnone : s.routedBy h = none) :
    s.retire h = ⟨{ s with
      slots := s.slots.set h.slot ⟨h.gen, none⟩
      nq := { s.nq with entries := s.nq.entries.filter fun e => e.handle? != some h } }, .done,
      [boolCode (s.nq.entries.any fun e => e.handle? == some h)]⟩ := by
  obtain ⟨hgen, -⟩ := (s.recordOf_eq_some h r).mp hr
  simp only [State.retire, hr, hnone, State.dropEntry, State.freeRecord, hgen, Entry.isOf_eq, bne]

end

/-- Settles O14: the tests in R10's order, and R11's three effects. -/
theorem retireDecided : Obligations.RetireDecided := by
  refine ⟨fun seq h => refusedOutsideRun_of_request fun _ => rfl, fun s seq h hready => ?_⟩
  simp only [← s.recordOf_endFrame]
  refine ⟨fun hr => ?handle, fun r o hr ho hlowest => ?inUse, fun r hr hnone => ?retired⟩
  case handle => exact State.exec_of_owner (fun _ => rfl) hready (State.retire_badHandle hr)
  case inUse =>
    exact State.exec_of_owner (fun _ => rfl) hready
      (State.retire_inUse hr (State.routedBy_eq_some (s := s.endFrame) ho hlowest))
  case retired =>
    exact State.exec_of_owner (owner := fun u => u.retire h) (fun _ => rfl) hready
      (State.retire_eq hr (State.routedBy_eq_none (s := s.endFrame) hnone))

end Sys2Proof.Machine
end

-- ==== FIND ====
section
/-! SUPPORT. The first eight matches of an ascending scan, and the slot after them (R13). -/

namespace Sys2Proof.Machine

set_option Elab.async false

section
variable {l : List (Fin 256)}

/-- Of an ascending list the first eight are those before the slot after the eighth. -/
theorem mem_take_iff_lt_nextSlot (hl : l.Pairwise (· < ·)) (i : Fin 256) :
    i ∈ l.take 8 ↔ i ∈ l ∧ i.val < nextSlot (l.take 8) := by
  unfold nextSlot
  split
  next last hlast =>
    obtain ⟨hlength, hlast⟩ := List.getElem?_eq_some_iff.mp hlast
    have hsplit : l.take 8 = l.take 7 ++ [last] := by
      have hlong : 7 < l.length := by
        rw [List.length_take] at hlength
        omega
      have hseventh : l[7] = last := by rw [← hlast, List.getElem_take]
      rw [← hseventh, List.take_append_getElem hlong]
    have hsorted := hl
    rw [← List.take_append_drop 8 l, List.pairwise_append, hsplit, List.pairwise_append] at hsorted
    obtain ⟨⟨-, -, hbefore⟩, -, hafter⟩ := hsorted
    have hmem : i ∈ l ↔ i ∈ l.take 8 ∨ i ∈ l.drop 8 := by rw [← List.mem_append, List.take_append_drop]
    rw [hmem]
    constructor
    · intro hi
      refine ⟨.inl hi, ?_⟩
      rcases List.mem_append.mp (hsplit ▸ hi) with hi | hi
      · exact Nat.lt_succ_of_lt (hbefore i hi last List.mem_cons_self)
      · rw [List.mem_singleton.mp hi]
        exact Nat.lt_succ_self _
    · rintro ⟨hi | hi, hlt⟩
      · exact hi
      · have hgt : last < i := hafter last (by simp) i hi
        exact absurd hlt (Nat.not_lt.mpr (Nat.succ_le_of_lt hgt))
  next hnone =>
    have hlength := List.getElem?_eq_none_iff.mp hnone
    rw [List.length_take] at hlength
    rw [List.take_of_length_le (by omega)]
    exact ⟨fun hi => ⟨hi, i.isLt⟩, fun hi => hi.1⟩

theorem nextSlot_of_short (h : l.length < 8) : nextSlot l = 256 := by
  unfold nextSlot
  rw [List.getElem?_eq_none (by omega)]

theorem nextSlot_of_eight (h : l.length = 8) : ∃ i, l.getLast? = some i ∧ nextSlot l = i.val + 1 := by
  obtain ⟨last, hlast⟩ : ∃ last, l[7]? = some last := ⟨l[7], List.getElem?_eq_getElem (by omega)⟩
  refine ⟨last, ?_, ?_⟩
  · rw [List.getLast?_eq_getElem?, h, hlast]
  · rw [nextSlot, hlast]

end

section
variable (s : State) (tag start : BitVec 16)

/-- Every match at or above the start slot, in ascending order. -/
def State.matchesFrom : List (Fin 256) := (s.slotsWhere fun r => r.tag == tag).filter fun i => start.toNat ≤ i.val

theorem State.matching_eq : s.matching tag start = (s.matchesFrom tag start).take 8 := rfl

theorem State.pairwise_matchesFrom : (s.matchesFrom tag start).Pairwise (· < ·) := (s.pairwise_slotsWhere _).filter _

theorem State.mem_matchesFrom (i : Fin 256) :
    i ∈ s.matchesFrom tag start ↔ start.toNat ≤ i.val ∧ ((s.recordAt i).any fun r => r.tag == tag) = true := by
  simp [State.matchesFrom, State.slotsWhere]

end

/-- Settles O16: the scan collects the first eight of an ascending list of matches. -/
theorem findScans : Obligations.FindScans := by
  intro s p seq tag start hready
  refine ⟨fun hstart => ?refused, fun hstart => ?found⟩
  case refused =>
    exact State.exec_of_always (owner := fun u => u.find tag start) (fun _ => rfl) hready (if_pos hstart)
  case found =>
    refine ⟨s.matching tag start, nextSlot (s.matching tag start), ?_, ?_, ?_, fun i => ?_, nextSlot_of_short, nextSlot_of_eight⟩
    · exact State.exec_of_always (owner := fun u => u.find tag start) (fun _ => rfl) hready (if_neg (Nat.not_lt.mpr hstart))
    · exact (s.pairwise_matchesFrom tag start).sublist (List.take_sublist 8 _)
    · exact List.length_take_le 8 _
    · rw [s.matching_eq, mem_take_iff_lt_nextSlot (s.pairwise_matchesFrom tag start), s.mem_matchesFrom]
      exact ⟨fun ⟨⟨hge, hany⟩, hlt⟩ => ⟨hge, hlt, hany⟩, fun ⟨hge, hlt, hany⟩ => ⟨⟨hge, hany⟩, hlt⟩⟩

end Sys2Proof.Machine
end

-- ==== MODIFY: what it refuses and what it writes ====
section
/-! SUPPORT. The answers of MODIFY test by test (R15), the items that a body writes (R16), and its timing values staged at a boundary
(R17) or written at once (R19 to R22). -/

namespace Sys2Proof.Machine

set_option Elab.async false

/-! ### The values that bytes carry -/

section
variable {x : Byte}

theorem val_of_finOf {n : Nat} {p : Fin n} (h : finOf n x = some p) : p.val = x.toNat := by
  unfold finOf at h
  split at h
  · cases h; rfl
  · cases h

theorem bits_of_notifyOf {n : Notify} (h : notifyOf x = some n) : n.phase = x.getLsbD 0 ∧ n.cycle = x.getLsbD 1 := by
  unfold notifyOf at h
  split at h
  · cases h; exact ⟨rfl, rfl⟩
  · cases h

theorem code_of_kindOf {k : Kind} (h : kindOf x = some k) : k.code = x := by
  unfold kindOf at h
  split at h <;> cases h <;> exact BitVec.eq_of_toNat_eq (by simp_all [Kind.code])

theorem code_of_consequenceOf {c : Consequence} (h : consequenceOf x = some c) : c.code = x := by
  unfold consequenceOf at h
  split at h <;> cases h <;> exact BitVec.eq_of_toNat_eq (by simp_all [Consequence.code])

theorem code_of_holdPolicyOf {p : HoldPolicy} (h : holdPolicyOf x = some p) : p.code = x := by
  unfold holdPolicyOf at h
  split at h <;> cases h <;> exact BitVec.eq_of_toNat_eq (by simp_all [HoldPolicy.code])

/-- Another consequence than NOTIFY is for the supervision kinds (R5). -/
theorem admitsConsequence_iff {c : Consequence} (h : consequenceOf x = some c) (k : Kind) :
    k.admitsConsequence c = true ↔ (x ≠ 0 → k = .supervise ∨ k = .window) := by
  obtain rfl := code_of_consequenceOf h
  cases k <;> cases c <;> simp [Kind.admitsConsequence, Kind.supervises, Consequence.code]

end

/-! ### The values that a body gives -/

section
variable {b : ModifyBody} {k : Kind} {r : Record}

/-- A value that is given is in range once the BAD_FIELD tests have passed. -/
theorem exists_given {α : Type} {present : Prop} [Decidable present] {value : Option α}
    (h : present → value.isSome = true) :
    (present ∧ ∃ x, value = some x ∧ (if present then value else none) = some x) ∨
      (¬ present ∧ (if present then value else none) = none) := by
  by_cases hp : present
  · obtain ⟨x, hx⟩ := Option.isSome_iff_exists.mp (h hp)
    exact .inl ⟨hp, x, hx, by rw [if_pos hp, hx]⟩
  · exact .inr ⟨hp, if_neg hp⟩

theorem givenItems_periodA (h : modifyFields b k) :
    (givenItems b).timing.periodA = if b.presence.getLsbD 6 = true then some b.periodA else none := by
  obtain ⟨-, -, -, -, -, -, h6, -, -, -⟩ := h
  show (if b.presence.getLsbD 6 = true then periodOf b.periodA else none) = _
  split
  next hp => exact if_neg (h6 hp)
  next => rfl

theorem givenItems_periodB (h : modifyFields b k) :
    (givenItems b).timing.periodB = if b.presence.getLsbD 7 = true then some b.periodB else none := by
  obtain ⟨-, -, -, -, -, -, -, h7, -, -⟩ := h
  show (if b.presence.getLsbD 7 = true then periodOf b.periodB else none) = _
  split
  next hp => exact if_neg (h7 hp).1
  next => rfl

theorem givenItems_repeatCount (b : ModifyBody) :
    (givenItems b).timing.repeatCount = if b.presence.getLsbD 8 = true then some b.repeatCount else none := rfl

theorem givenItems_period (h : modifyFields b k) (phase : Phase) :
    (givenItems b).timing.period phase = match phase with
      | .a => if b.presence.getLsbD 6 = true then some b.periodA else none
      | .b => if b.presence.getLsbD 7 = true then some b.periodB else none := by
  cases phase with
  | a => exact givenItems_periodA h
  | b => exact givenItems_periodB h

/-- Without timing values, and with mode AT_BOUNDARY, there is nothing to write at once. -/
theorem givenItems_atBoundary (h : modifyTimed b → b.mode = 0) : (givenItems b).mode = .atBoundary := by
  show (if b.presence.getLsbD 6 || b.presence.getLsbD 7 || b.presence.getLsbD 8 then modeOf b.mode else none).getD .atBoundary = _
  split
  next htimed =>
    rw [h (by simpa [modifyTimed, or_assoc] using htimed)]
    rfl
  next => rfl

theorem givenItems_immediate (ht : modifyTimed b) (h : b.mode = 1) : (givenItems b).mode = .immediate := by
  have htimed : (b.presence.getLsbD 6 || b.presence.getLsbD 7 || b.presence.getLsbD 8) = true := by
    simpa [modifyTimed, or_assoc] using ht
  show (if b.presence.getLsbD 6 || b.presence.getLsbD 7 || b.presence.getLsbD 8 then modeOf b.mode else none).getD .atBoundary = _
  rw [if_pos htimed, h]
  rfl

theorem givenItems_timing_ne_none (hf : modifyFields b k) (ht : modifyTimed b) : (givenItems b).timing ≠ Pending.none := by
  intro hnone
  have hA := givenItems_periodA hf
  have hB := givenItems_periodB hf
  have hR := givenItems_repeatCount b
  rw [hnone] at hA hB hR
  rcases ht with hp | hp | hp <;> simp [hp, Pending.none] at hA hB hR

/-- The BAD_KIND test as MODIFY makes it (R15). -/
theorem admits_givenItems_iff (h : modifyFields b k) :
    ((givenItems b).consequence.any fun c => !k.admitsConsequence c) = false ↔ modifyKinds b k := by
  obtain ⟨-, -, -, h2, -, -, -, -, -, -⟩ := h
  show ((if b.presence.getLsbD 2 = true then consequenceOf b.consequence else none).any fun c => !k.admitsConsequence c) = false ↔ _
  rcases exists_given fun hp => consequenceOf_isSome_iff.mpr (h2 hp) with ⟨hp, c, hc, hgiven⟩ | ⟨hp, hgiven⟩
  · rw [hgiven, Option.any_some, Bool.not_eq_false', admitsConsequence_iff hc k]
    exact ⟨fun hkinds _ => hkinds, fun hkinds => hkinds hp⟩
  · rw [hgiven]
    exact ⟨fun _ hp' => absurd hp' hp, fun _ => rfl⟩

/-- The items other than timing values that a MODIFY writes (R16). -/
theorem itemsWritten_modifyItems (h : modifyFields b k) (r : Record) : itemsWritten b r (r.modifyItems (givenItems b)) := by
  obtain ⟨-, h0, h1, h2, h3, -, -, -, -, -⟩ := h
  refine ⟨?priority, ?notify, ?consequence, ?holdPolicy, ?tag, rfl, rfl, rfl, rfl, rfl⟩
  case priority =>
    show if _ then ((if b.presence.getLsbD 0 = true then finOf 8 b.priority else none).getD r.priority).val = _
      else (if b.presence.getLsbD 0 = true then finOf 8 b.priority else none).getD r.priority = _
    rcases exists_given fun hp => finOf_isSome_iff.mpr (h0 hp) with ⟨hp, x, hx, hgiven⟩ | ⟨hp, hgiven⟩
    · rw [if_pos hp, hgiven]; exact val_of_finOf hx
    · rw [if_neg hp, hgiven]; rfl
  case notify =>
    show if _ then ((if b.presence.getLsbD 1 = true then notifyOf b.notify else none).getD r.notify).phase = _ ∧
        ((if b.presence.getLsbD 1 = true then notifyOf b.notify else none).getD r.notify).cycle = _
      else (if b.presence.getLsbD 1 = true then notifyOf b.notify else none).getD r.notify = _
    rcases exists_given fun hp => notifyOf_isSome_iff.mpr (h1 hp).1 with ⟨hp, x, hx, hgiven⟩ | ⟨hp, hgiven⟩
    · rw [if_pos hp, hgiven]; exact bits_of_notifyOf hx
    · rw [if_neg hp, hgiven]; rfl
  case consequence =>
    show if _ then ((if b.presence.getLsbD 2 = true then consequenceOf b.consequence else none).getD r.consequence).code = _
      else (if b.presence.getLsbD 2 = true then consequenceOf b.consequence else none).getD r.consequence = _
    rcases exists_given fun hp => consequenceOf_isSome_iff.mpr (h2 hp) with ⟨hp, x, hx, hgiven⟩ | ⟨hp, hgiven⟩
    · rw [if_pos hp, hgiven]; exact code_of_consequenceOf hx
    · rw [if_neg hp, hgiven]; rfl
  case holdPolicy =>
    show if _ then ((if b.presence.getLsbD 3 = true then holdPolicyOf b.holdPolicy else none).getD r.holdPolicy).code = _
      else (if b.presence.getLsbD 3 = true then holdPolicyOf b.holdPolicy else none).getD r.holdPolicy = _
    rcases exists_given fun hp => holdPolicyOf_isSome_iff.mpr (h3 hp) with ⟨hp, x, hx, hgiven⟩ | ⟨hp, hgiven⟩
    · rw [if_pos hp, hgiven]; exact code_of_holdPolicyOf hx
    · rw [if_neg hp, hgiven]; rfl
  case tag =>
    show (if b.presence.getLsbD 4 = true then some b.tag else none).getD r.tag = _
    split <;> rfl

end

/-! ### MODIFY's answers -/

section
variable {s : State} {h : Handle} {b : ModifyBody} {r : Record} (hr : s.recordOf h = some r)
include hr

theorem State.modify_badField (hf : ¬ modifyFields b r.kind) : s.modify h b = ⟨s, .badField, []⟩ := by
  simp only [State.modify, hr, modifyItems_eq_none hf, refuse]

theorem State.modify_badKind (hf : modifyFields b r.kind) (hk : ¬ modifyKinds b r.kind) : s.modify h b = ⟨s, .badKind, []⟩ := by
  have hadmits := (not_congr (admits_givenItems_iff hf)).mpr hk
  rw [Bool.not_eq_false] at hadmits
  simp only [State.modify, hr, modifyItems_eq hf, if_pos hadmits, refuse]

theorem State.modify_badState (hf : modifyFields b r.kind) (hk : modifyKinds b r.kind)
    (hpaused : ((givenItems b).isImmediate && r.timing.isPaused) = true) : s.modify h b = ⟨s, .badState, []⟩ := by
  have hadmits := (admits_givenItems_iff hf).mpr hk
  simp only [State.modify, hr, modifyItems_eq hf, hadmits, Bool.false_eq_true, if_false, if_pos hpaused, refuse]

/-- A MODIFY that passes its tests writes its items, and answers whether an expiry was taken. -/
theorem State.modify_eq (hf : modifyFields b r.kind) (hk : modifyKinds b r.kind)
    (hpaused : ((givenItems b).isImmediate && r.timing.isPaused) = false) {u : State} {expired : Bool}
    (happly : s.applyModify h.slot r (givenItems b) = (u, expired)) : s.modify h b = ⟨u, .done, [boolCode expired]⟩ := by
  have hadmits := (admits_givenItems_iff hf).mpr hk
  simp only [State.modify, hr, modifyItems_eq hf, hadmits, hpaused, Bool.false_eq_true, if_false, happly]

end

/-- Settles O17: with mode AT_BOUNDARY, or without timing values, the record written is the one with its items written and its timing
values staged. -/
theorem modifyStages : Obligations.ModifyStages := by
  refine ⟨fun seq h b => refusedOutsideRun_of_request fun _ => rfl, fun s seq h b r hready hr => ?_⟩
  rw [← s.recordOf_endFrame] at hr
  refine ⟨fun hf => ?field, fun hf hk => ?kind, fun hf hk hmode => ?staged⟩
  case field => exact State.exec_of_owner (fun _ => rfl) hready (State.modify_badField hr hf)
  case kind => exact State.exec_of_owner (fun _ => rfl) hready (State.modify_badKind hr hf hk)
  case staged =>
    have hboundary := givenItems_atBoundary hmode
    have hpaused : ((givenItems b).isImmediate && r.timing.isPaused) = false := by simp [ModifyItems.isImmediate, hboundary]
    have happly : s.endFrame.applyModify h.slot r (givenItems b) =
        ((s.putRecord h.slot ((r.modifyItems (givenItems b)).stage (givenItems b).timing)).endFrame, false) := by
      unfold State.applyModify
      rw [hboundary]
      rfl
    refine ⟨_, State.exec_of_owner (fun _ => rfl) hready (State.modify_eq hr hf hk hpaused happly),
      itemsWritten_modifyItems hf r, ?_, ?_, ?_, rfl, rfl, rfl, rfl⟩
    · show (givenItems b).timing.periodA.or r.pending.periodA = _
      rw [givenItems_periodA hf]
      split <;> rfl
    · show (givenItems b).timing.periodB.or r.pending.periodB = _
      rw [givenItems_periodB hf]
      split <;> rfl
    · show (givenItems b).timing.repeatCount.or r.pending.repeatCount = _
      rw [givenItems_repeatCount]
      split <;> rfl

/-! ### Timing values written at once (R19 to R21) -/

/-- An expiry meets no frame: it does the same before the frame ends and after. -/
theorem State.expire_endFrame (s : State) (i : Fin 256) (n : Time) : s.endFrame.expire i n = (s.expire i n).endFrame := by
  have hphase (r : Record) (run : Run) : s.endFrame.phaseAEnd i r run n = (s.phaseAEnd i r run n).endFrame := by
    unfold State.phaseAEnd
    split <;> rfl
  have hcycle (r : Record) : s.endFrame.cycleEnd i r n = (s.cycleEnd i r n).endFrame := by
    unfold State.cycleEnd
    cases r.notify.cycle <;> cases r.cyclesLeft with
    | none => rfl
    | some left =>
      dsimp only
      split <;> rfl
  have hrec : s.endFrame.recordAt i = s.recordAt i := rfl
  unfold State.expire
  rw [hrec]
  split
  · rfl
  · split
    · split
      · rfl
      · exact hphase _ _
      · exact hcycle _
      · exact s.fault_endFrame i _ _ n
      · exact hphase _ _
      · exact s.fault_endFrame i _ _ n
    · rfl

section
variable {s : State} {i : Fin 256} {r : Record} {v : Pending} {run : Run} {phase : Phase} {start due : Time} {p : Period}

theorem State.retime_idle (ht : r.timing = .idle) : s.retime i r v = (s.putRecord i r, false) := by
  simp only [State.retime, ht]

theorem State.retime_kept (ht : r.timing = .active run phase start due) (hv : v.period phase = none) :
    s.retime i r v = (s.putRecord i r, false) := by
  simp only [State.retime, ht, hv]

theorem State.retime_moved (ht : r.timing = .active run phase start due) (hv : v.period phase = some p)
    (hlt : s.td.now - start < ticks p) :
    s.retime i r v = (s.putRecord i { r with timing := .active run phase start (start + ticks p) }, false) := by
  simp only [State.retime, ht, hv, if_pos hlt]

theorem State.retime_expired (ht : r.timing = .active run phase start due) (hv : v.period phase = some p)
    (hle : ticks p ≤ s.td.now - start) : s.retime i r v = ((s.putRecord i r).expire i s.td.now, true) := by
  simp only [State.retime, ht, hv, if_neg (BitVec.not_lt.mpr hle)]

end

/-- The record with its items and its timing values written at once (R16, R19). -/
def RecordOf.modified (r : Record) (b : ModifyBody) : Record := (r.modifyItems (givenItems b)).write (givenItems b).timing

section
variable {b : ModifyBody} {k : Kind} {r : Record}

theorem RecordOf.modified_timing : (RecordOf.modified r b).timing = r.timing := rfl

theorem unstage_given {α : Type} {present : Prop} [Decidable present] (x : α) (pending : Option α) :
    unstage (if present then some x else none) pending = if present then none else pending := by
  split <;> rfl

theorem getD_given {α : Type} {present : Prop} [Decidable present] (x y : α) :
    (if present then some x else none).getD y = if present then x else y := by
  split <;> rfl

/-- What R19 makes of the three timing values and of their pending values. -/
theorem RecordOf.modified_values (h : modifyFields b k) :
    (RecordOf.modified r b).periodA = (if b.presence.getLsbD 6 = true then b.periodA else r.periodA) ∧
    (RecordOf.modified r b).periodB = (if b.presence.getLsbD 7 = true then b.periodB else r.periodB) ∧
    (RecordOf.modified r b).repeatCount = (if b.presence.getLsbD 8 = true then b.repeatCount else r.repeatCount) ∧
    (RecordOf.modified r b).pending.periodA = (if b.presence.getLsbD 6 = true then none else r.pending.periodA) ∧
    (RecordOf.modified r b).pending.periodB = (if b.presence.getLsbD 7 = true then none else r.pending.periodB) ∧
    (RecordOf.modified r b).pending.repeatCount = (if b.presence.getLsbD 8 = true then none else r.pending.repeatCount) := by
  simp only [RecordOf.modified, RecordOf.write, givenItems_periodA h, givenItems_periodB h, givenItems_repeatCount, getD_given,
    unstage_given, RecordOf.modifyItems, and_self]

theorem RecordOf.modified_cyclesLeft_idle (ht : r.timing = .idle) : (RecordOf.modified r b).cyclesLeft = r.cyclesLeft := by
  have hidle : (r.modifyItems (givenItems b)).timing = .idle := ht
  simp only [RecordOf.modified, RecordOf.write, hidle]
  cases (givenItems b).timing.repeatCount <;> rfl

/-- A Repeat count sets the Cycles left of a timing record (R21). -/
theorem RecordOf.modified_cyclesLeft_active {run : Run} {phase : Phase} {start due : Time}
    (ht : r.timing = .active run phase start due) :
    (RecordOf.modified r b).cyclesLeft =
      if b.presence.getLsbD 8 = true then (if b.repeatCount = 0 then none else some b.repeatCount) else r.cyclesLeft := by
  have hactive : (r.modifyItems (givenItems b)).timing = .active run phase start due := ht
  simp only [RecordOf.modified, RecordOf.write, hactive, givenItems_repeatCount]
  cases b.presence.getLsbD 8 <;> rfl

end

section
variable {s : State} {seq : Byte} {h : Handle} {b : ModifyBody} {r : Record}

/-- An accepted MODIFY of a record that is not PAUSED, with timing values written at once, does what R20 says of the record written. -/
theorem State.exec_modify_immediate (hready : s.ready .run seq) (hr : s.recordOf h = some r) (hf : modifyFields b r.kind)
    (hk : modifyKinds b r.kind) (ht : modifyTimed b) (hmode : b.mode = 1) (hnot : r.timing.isPaused = false) {u : State}
    {expired : Bool} (hretime : s.endFrame.retime h.slot (r.modified b) (givenItems b).timing = (u.endFrame, expired)) :
    exec (.modify seq h b) s = .next (u.answering seq .done [boolCode expired]) := by
  have happly : s.endFrame.applyModify h.slot r (givenItems b) = (u.endFrame, expired) := by
    unfold State.applyModify
    rw [givenItems_immediate ht hmode]
    exact hretime
  refine State.exec_of_owner (fun _ => rfl) hready (State.modify_eq (s := s.endFrame) hr hf hk ?_ happly)
  rw [hnot, Bool.and_false]

end

/-- Settles O18: the record written as R19 says, and then R20's cases of the period of its current phase. -/
theorem modifyImmediate : Obligations.ModifyImmediate := by
  intro s seq h b r hready hr hf hk ht hmode
  have himmediate : (givenItems b).isImmediate = true := by
    simp [ModifyItems.isImmediate, givenItems_immediate ht hmode, givenItems_timing_ne_none hf ht]
  obtain ⟨hA, hB, hR, hpA, hpB, hpR⟩ := RecordOf.modified_values (r := r) hf
  refine ⟨fun run phase remaining hpaused => ?paused, r.modified b, itemsWritten_modifyItems hf r, hA, hB, hR, hpA, hpB, hpR,
    fun hidle => ?idle, fun run phase start due hactive => ?active⟩
  case paused =>
    exact State.exec_of_owner (fun _ => rfl) hready
      (State.modify_badState (s := s.endFrame) hr hf hk (by rw [himmediate, hpaused]; rfl))
  case idle =>
    refine ⟨RecordOf.modified_cyclesLeft_idle hidle, ?_⟩
    exact State.exec_modify_immediate (u := s.putRecord h.slot (r.modified b)) hready hr hf hk ht hmode (by rw [hidle]; rfl)
      (State.retime_idle (RecordOf.modified_timing.trans hidle))
  case active =>
    have hnot : r.timing.isPaused = false := by rw [hactive]; rfl
    intro newPeriod
    have hwritten : RecordOf.timing (r.modified b) = .active run phase start due := RecordOf.modified_timing.trans hactive
    have hperiod : (givenItems b).timing.period phase = newPeriod := givenItems_period hf phase
    refine ⟨RecordOf.modified_cyclesLeft_active hactive, fun hnone => ?kept, fun p hp hlt => ?moved, fun p hp hle => ?expired⟩
    case kept =>
      exact State.exec_modify_immediate (u := s.putRecord h.slot (r.modified b)) hready hr hf hk ht hmode hnot
        (State.retime_kept hwritten (hperiod.trans hnone))
    case moved =>
      exact State.exec_modify_immediate
        (u := s.putRecord h.slot { r.modified b with timing := .active run phase start (start + ticks p) }) hready hr hf hk ht hmode
        hnot (State.retime_moved hwritten (hperiod.trans hp) hlt)
    case expired =>
      have hretime := State.retime_expired (s := s.endFrame) (i := h.slot) hwritten (hperiod.trans hp) hle
      have hexpire := (s.putRecord h.slot (r.modified b)).expire_endFrame h.slot s.td.now
      exact State.exec_modify_immediate hready hr hf hk ht hmode hnot (hretime.trans (congrArg (·, true) hexpire))

end Sys2Proof.Machine
end

-- ==== DEFINE: its tests and its record ====
section
/-! SUPPORT. The BAD_FIELD tests of DEFINE as R4 and R5 word them, its other tests in R8's order, and the record it places (R9). -/

namespace Sys2Proof.Machine

set_option Elab.async false

theorem kindOf_isSome_iff {x : Byte} : (kindOf x).isSome = true ↔ x.toNat < 4 := by
  revert x
  decide

/-! ### The BAD_FIELD tests -/

/-- The values of a DEFINE are in range, and those of its kind are present as the kind has them (R4, R5, R8). -/
def InRange (d : DefineBody) : Prop :=
  d.kind.toNat < 4 ∧ d.periodA ≠ 0 ∧ ((d.kind = 1 ∨ d.kind = 3) ↔ d.periodB ≠ 0) ∧ (d.repeatCount ≠ 0 → d.kind = 1) ∧
  d.priority.toNat < 8 ∧ d.notify.toNat < 4 ∧ (d.kind = 0 ∨ d.kind = 2 → d.notify = 0) ∧
  (d.kind = 3 → d.notify.getLsbD 1 = false) ∧ d.consequence.toNat < 3 ∧ d.holdPolicy.toNat < 2

section
variable {d : DefineBody} {kind : Kind} {notify : Notify}

theorem Kind.hasPeriodB_iff_code (k : Kind) : k.hasPeriodB = true ↔ k.code = 1 ∨ k.code = 3 := by cases k <;> decide

theorem Kind.hasRepeat_iff_code (k : Kind) : k.hasRepeat = true ↔ k.code = 1 := by cases k <;> decide

theorem Kind.supervises_iff_code (k : Kind) : k = .supervise ∨ k = .window ↔ k.code = 2 ∨ k.code = 3 := by cases k <;> decide

theorem Kind.unnotified_iff_code (k : Kind) : k = .oneshot ∨ k = .supervise ↔ k.code = 0 ∨ k.code = 2 := by cases k <;> decide

theorem Kind.window_iff_code (k : Kind) : k = .window ↔ k.code = 3 := by cases k <;> decide

/-- What a kind asks of the other values is what R5 asks of them by the kind's number. -/
theorem kindRules_iff (hk : kindOf d.kind = some kind) (hn : notifyOf d.notify = some notify) :
    (d.periodA ≠ 0 ∧ kind.hasPeriodB = (d.periodB != 0) ∧ (kind.hasRepeat = true ∨ d.repeatCount = 0) ∧
        kind.admitsNotify notify = true) ↔
      d.periodA ≠ 0 ∧ ((d.kind = 1 ∨ d.kind = 3) ↔ d.periodB ≠ 0) ∧ (d.repeatCount ≠ 0 → d.kind = 1) ∧
        (d.kind = 0 ∨ d.kind = 2 → d.notify = 0) ∧ (d.kind = 3 → d.notify.getLsbD 1 = false) := by
  have hB : kind.hasPeriodB = (d.periodB != 0) ↔ ((d.kind = 1 ∨ d.kind = 3) ↔ d.periodB ≠ 0) := by
    rw [Bool.eq_iff_iff, kind.hasPeriodB_iff_code, code_of_kindOf hk, bne_iff_ne]
  have hR : kind.hasRepeat = true ∨ d.repeatCount = 0 ↔ (d.repeatCount ≠ 0 → d.kind = 1) := by
    rw [kind.hasRepeat_iff_code, code_of_kindOf hk, or_comm, or_iff_not_imp_left]
  rw [hB, hR, admitsNotify_iff hn, kind.unnotified_iff_code, kind.window_iff_code, code_of_kindOf hk]

theorem definedRecord_isSome_iff : (definedRecord d).isSome = true ↔ InRange d := by
  rw [Option.isSome_iff_exists]
  constructor
  · rintro ⟨r, hr⟩
    obtain ⟨kind, priority, notify, consequence, holdPolicy, ⟨hk, hp, hn, hc, hh⟩, hrules, -⟩ := definedRecord_eq_some_iff.mp hr
    obtain ⟨hA, hB, hR, hquiet, hwindow⟩ := (kindRules_iff hk hn).mp hrules
    exact ⟨kindOf_isSome_iff.mp (by rw [hk]; rfl), hA, hB, hR, finOf_isSome_iff.mp (by rw [hp]; rfl),
      notifyOf_isSome_iff.mp (by rw [hn]; rfl), hquiet, hwindow, consequenceOf_isSome_iff.mp (by rw [hc]; rfl),
      holdPolicyOf_isSome_iff.mp (by rw [hh]; rfl)⟩
  · rintro ⟨hkind, hA, hB, hR, hpriority, hnotify, hquiet, hwindow, hconsequence, hpolicy⟩
    obtain ⟨kind, hk⟩ := Option.isSome_iff_exists.mp (kindOf_isSome_iff.mpr hkind)
    obtain ⟨priority, hp⟩ := Option.isSome_iff_exists.mp (finOf_isSome_iff.mpr hpriority)
    obtain ⟨notify, hn⟩ := Option.isSome_iff_exists.mp (notifyOf_isSome_iff.mpr hnotify)
    obtain ⟨consequence, hc⟩ := Option.isSome_iff_exists.mp (consequenceOf_isSome_iff.mpr hconsequence)
    obtain ⟨holdPolicy, hh⟩ := Option.isSome_iff_exists.mp (holdPolicyOf_isSome_iff.mpr hpolicy)
    exact ⟨_, definedRecord_eq_some_iff.mpr ⟨kind, priority, notify, consequence, holdPolicy, ⟨hk, hp, hn, hc, hh⟩,
      (kindRules_iff hk hn).mpr ⟨hA, hB, hR, hquiet, hwindow⟩, rfl⟩⟩

end

/-- What a new record carries of the body that defines it (R9). -/
structure Record.DefinedBy (r : Record) (d : DefineBody) : Prop where
  kind : r.kind.code = d.kind
  priority : r.priority.val = d.priority.toNat
  notify : r.notify.phase = d.notify.getLsbD 0 ∧ r.notify.cycle = d.notify.getLsbD 1
  consequence : r.consequence.code = d.consequence
  holdPolicy : r.holdPolicy.code = d.holdPolicy
  admits : r.kind.admitsConsequence r.consequence = true ↔ (d.consequence ≠ 0 → d.kind = 2 ∨ d.kind = 3)
  rest : r = freshRecord d r.kind r.priority r.notify r.consequence r.holdPolicy

theorem Record.definedBy_of {d : DefineBody} {r : Record} (hr : definedRecord d = some r) : r.DefinedBy d := by
  obtain ⟨kind, priority, notify, consequence, holdPolicy, ⟨hk, hp, hn, hc, hh⟩, -, rfl⟩ := definedRecord_eq_some_iff.mp hr
  refine ⟨code_of_kindOf hk, val_of_finOf hp, bits_of_notifyOf hn, code_of_consequenceOf hc, code_of_holdPolicyOf hh, ?_, rfl⟩
  show kind.admitsConsequence consequence = true ↔ _
  rw [admitsConsequence_iff hc, kind.supervises_iff_code, code_of_kindOf hk]

/-! ### DEFINE's answers -/

section
variable {s : State} {d : DefineBody} {r : Record}

theorem State.define_badField (hr : definedRecord d = none) : s.define d = ⟨s, .badField, []⟩ := by
  simp only [State.define, hr, refuse]

theorem State.define_badKind (hr : definedRecord d = some r) (hc : ¬ r.kind.admitsConsequence r.consequence = true) :
    s.define d = ⟨s, .badKind, []⟩ := by
  simp only [State.define, hr, Bool.eq_false_of_not_eq_true hc, Bool.not_false, if_true, refuse]

theorem State.define_tableFull (hr : definedRecord d = some r) (hc : r.kind.admitsConsequence r.consequence = true)
    (hfull : ∀ i, (s.recordAt i).isSome = true) : s.define d = ⟨s, .tableFull, []⟩ := by
  have hnone : s.lowestFree = none := List.find?_eq_none.mpr fun i _ => by simp [Option.isSome_iff_ne_none.mp (hfull i)]
  simp only [State.define, hr, hc, Bool.not_true, Bool.false_eq_true, if_false, hnone, refuse]

/-- A DEFINE that passes its tests places its record in the lowest FREE slot. -/
theorem State.define_eq (hr : definedRecord d = some r) (hc : r.kind.admitsConsequence r.consequence = true) {i : Fin 256}
    (hfree : s.recordAt i = none) (hlowest : ∀ j, j < i → (s.recordAt j).isSome = true) :
    s.define d = ⟨s.place i r, .done, [BitVec.ofNat 8 i.val, s.slots[i].gen + 1]⟩ := by
  have hlowestFree : s.lowestFree = some i :=
    find?_finRange_eq_some (by rw [hfree]; rfl) fun j hj => by
      rw [Option.isNone_eq_false_iff]
      exact hlowest j hj
  have hhandle : bytesHandle ((s.place i r).handleAt i) = [BitVec.ofNat 8 i.val, s.slots[i].gen + 1] := by
    simp [bytesHandle, State.handleAt, State.place]
  simp only [State.define, hr, hc, Bool.not_true, Bool.false_eq_true, if_false, hlowestFree, hhandle]

end

/-- Settles O13: the tests in R8's order, and then the record that the body gives, in the lowest FREE slot. -/
theorem defineDecided : Obligations.DefineDecided := by
  refine ⟨⟨rfl, rfl, rfl, rfl, rfl, rfl, rfl, rfl, rfl⟩, fun s seq d hready => ?_⟩
  intro fields kinds
  have hfields : (definedRecord d).isSome = true ↔ fields := definedRecord_isSome_iff
  have hdefined (hf : fields) : ∃ r, definedRecord d = some r := Option.isSome_iff_exists.mp (hfields.mpr hf)
  refine ⟨fun hf => ?field, fun hf hk => ?kind, fun hf hk hfull => ?full, fun hf hk i hfree hlowest => ?placed⟩
  case field =>
    have hnone := Option.not_isSome_iff_eq_none.mp fun hsome => hf (hfields.mp hsome)
    exact State.exec_of_owner (fun _ => rfl) hready (State.define_badField hnone)
  all_goals
    obtain ⟨r, hr⟩ := hdefined hf
    have hby := Record.definedBy_of hr
  case kind =>
    exact State.exec_of_owner (fun _ => rfl) hready (State.define_badKind hr fun hadmits => hk (hby.admits.mp hadmits))
  case full =>
    exact State.exec_of_owner (fun _ => rfl) hready (State.define_tableFull (s := s.endFrame) hr (hby.admits.mpr hk) hfull)
  case placed =>
    refine ⟨r, State.exec_of_owner (owner := fun u => u.define d) (fun _ => rfl) hready
      (State.define_eq (s := s.endFrame) hr (hby.admits.mpr hk) hfree hlowest), hby.kind, ?_⟩
    obtain ⟨hphase, hcycle⟩ := hby.notify
    have hrest := hby.rest
    refine ⟨congrArg (·.timing) hrest, congrArg (·.periodA) hrest, congrArg (·.periodB) hrest, congrArg (·.repeatCount) hrest,
      congrArg (·.cyclesLeft) hrest, congrArg (·.pending) hrest, hby.priority, hphase, hcycle, hby.consequence, hby.holdPolicy,
      congrArg (·.tag) hrest, congrArg (·.trigger) hrest, congrArg (·.group) hrest, congrArg (·.missCount) hrest, ?_⟩
    exact congrArg (·.signal) hrest

end Sys2Proof.Machine
end

-- ==== LOADING completes ====
section
/-! SUPPORT. Which bank is valid and which image LOADING selects (R147), and what a restored and a cold part hold (R24, R148, R149,
R154, R177). -/

namespace Sys2Proof.Machine

set_option Elab.async false

/-! ### The banks judged (R147) -/

theorem Bank.judge_eq_some_iff {b : Bank} {x : BankInfo} : b.judge = some x ↔ ∃ st : StoredImage, b.marker = true ∧
    b.content = some st ∧ st.crc = crc32 (Config.imageBytes st.image) ∧ x = ⟨st.image.generation, st.image.origin⟩ := by
  obtain ⟨marker, content⟩ := b
  cases content with
  | none => simp [Bank.judge]
  | some st => cases marker <;> simp [Bank.judge, imageCrc, eq_comm (a := x)]

/-- The bank that holds the newest valid image is the one that the newest image names. -/
theorem PowerUnit.newestBank_of_newest {p : PowerUnit} {b : Fin 2} {x : BankInfo} (h : p.newest = some (b, x)) :
    newestBank p.banks = some b := by
  obtain ⟨c, hc, hmap⟩ := Option.bind_eq_some_iff.mp h
  obtain ⟨y, -, hpair⟩ := Option.map_eq_some_iff.mp hmap
  cases hpair
  exact hc

section
variable {s : State} (levels : BitVec 8)

/-- The part when LOADING has judged its banks and answered with SEQ 0 (R147, R177). -/
def State.judged (s : State) : State :=
  { s with pr := { s.pr with banks := s.pr.store.map Bank.judge }, hp := { s.hp with held := ⟨0, .done, []⟩ } }

theorem State.banks_judged (s : State) (b : Fin 2) : s.judged.pr.banks[b] = s.pr.store[b].judge := by
  simp [State.judged]

/-- While RSTN is asserted LOADING does not complete (R146). -/
theorem State.exec_loadingComplete_reset (hsteady : s.steady .loading) (hrstn : s.pr.rstn = true) :
    exec (.loadingComplete levels) s = .next s := by
  rw [show exec (.loadingComplete levels) s = execLoadingComplete levels s from rfl, execLoadingComplete, s.event_of_steady hsteady]
  have ⟨_, hloading, _⟩ := hsteady
  simp only [hloading, hrstn]

/-- What LOADING makes of the part with its banks judged. -/
def State.loaded (s : State) (levels : BitVec 8) : State :=
  match s.pr.selected with
  | some img => s.restore img levels
  | none => s.coldStart levels

theorem State.exec_loadingComplete (hsteady : s.steady .loading) (hrstn : s.pr.rstn = false) :
    exec (.loadingComplete levels) s = .next (s.judged.loaded levels) := by
  have ⟨_, hloading, _⟩ := hsteady
  rw [show exec (.loadingComplete levels) s = execLoadingComplete levels s from rfl, execLoadingComplete, s.event_of_steady hsteady]
  refine congrArg Host.Outcome.next ?_
  dsimp only
  split
  next => rfl
  next hne => exact (hne hloading hrstn).elim

theorem State.loaded_of_selected {img : Image} (hselected : s.pr.selected = some img) : s.loaded levels = s.restore img levels := by
  simp only [State.loaded, hselected]

theorem State.loaded_of_none (hselected : s.pr.selected = none) : s.loaded levels = s.coldStart levels := by
  simp only [State.loaded, hselected]

/-! ### The cold start (R149, R154) -/

theorem State.banks_judged_of_invalid (hinvalid : ∀ b : Fin 2, s.pr.store[b].judge = none) :
    s.judged.pr.banks = Vector.replicate 2 none := by
  refine Vector.ext fun n hn => ?_
  rw [Vector.getElem_replicate]
  exact (s.banks_judged ⟨n, hn⟩).trans (hinvalid ⟨n, hn⟩)

theorem State.selected_judged_of_invalid (hinvalid : ∀ b : Fin 2, s.pr.store[b].judge = none) : s.judged.pr.selected = none := by
  rw [PowerUnit.selected, State.banks_judged_of_invalid hinvalid]
  rfl

/-- Every block with its cold values, and COLD_START posted at Now 0. -/
def State.cold (s : State) (levels : BitVec 8) : State :=
  { s with
    slots := Vector.replicate 256 ⟨0, none⟩
    td := { s.td with now := 0, tickPeriod := .ms1, divider := 0 }
    lu := { lines := Vector.ofFn fun l => ⟨⟨.none, 0⟩, levels.getLsbD l.val, none⟩, ignored := 0 }
    ou := { s.ou with routes := Vector.replicate 16 ⟨.static false, false⟩, safe := none }
    nq := { entries := postSystemEntry s.nq.entries (.coldStart .noImage) 0, threshold := 0 } }

theorem loadedLines_cold (levels : BitVec 8) :
    loadedLines (Vector.replicate 8 coldLine) levels = Vector.ofFn fun l => ⟨⟨.none, 0⟩, levels.getLsbD l.val, none⟩ := by
  simp [loadedLines, coldLine]

theorem State.coldStart_eq (s : State) : s.coldStart levels = (s.cold levels).enterRun := by
  unfold State.coldStart
  rw [loadedLines_cold]
  rfl

/-- With PWARN asserted RUN gives way to HOLD at once, whose save is into the target (R154, R158). -/
theorem State.enterRun_targets {b : Fin 2} {g : BitVec 32} (hpwarn : s.pr.pwarn = true) (hnone : s.pr.checkpoint = none)
    (htarget : s.pr.isTarget b g) :
    s.enterRun =
      { s with
        td := { s.td with divider := 0, holdCounter := 0 }
        pr := { s.pr.invalidate b with power := .hold, save := some ⟨b, g⟩ } } :=
  (if_pos hpwarn).trans
    (State.enterHold_targets (s := { s with td := { s.td with divider := 0 }, pr := { s.pr with power := .run } }) hnone htarget)

/-- A cold part with PWARN asserted has bank 0 as the target of its save (R154, R158). -/
theorem State.coldStart_held (hpwarn : s.pr.pwarn = true) (hnone : s.pr.checkpoint = none)
    (hbanks : s.pr.banks = Vector.replicate 2 none) :
    s.coldStart levels =
      { s.cold levels with
        td := { (s.cold levels).td with holdCounter := 0 }
        pr := { s.pr with
          power := .hold, save := some ⟨0, 1⟩
          store := s.pr.store.set 0 { s.pr.store[(0 : Fin 2)] with marker := false } } } := by
  have htarget : s.pr.isTarget 0 1 := .inl ⟨by simp [hbanks], by simp [hbanks], rfl, rfl⟩
  have hset : s.pr.banks.set 0 none = s.pr.banks := by
    rw [hbanks]
    rfl
  have hinvalid : s.pr.invalidate 0 =
      { s.pr with store := s.pr.store.set 0 { s.pr.store[(0 : Fin 2)] with marker := false } } :=
    congrArg (fun banks => { s.pr with
      store := s.pr.store.set 0 { s.pr.store[(0 : Fin 2)] with marker := false }, banks := banks }) hset
  rw [s.coldStart_eq, State.enterRun_targets (s := s.cold levels) hpwarn hnone htarget]
  exact congrArg (fun p : PowerUnit => ({ s.cold levels with
    td := { (s.cold levels).td with holdCounter := 0 }
    pr := { p with power := .hold, save := some ⟨0, 1⟩ } } : State)) hinvalid

/-! ### The restored part (R24, R148) -/

/-- The slots of an image, every timing record PARKED. -/
def Image.restoredSlots (img : Image) : Vector Slot 256 := img.slots.map fun slot => ⟨slot.gen, slot.record.map fun r => r.restored⟩

/-- The bank whose valid image the other does not outdo is the one that LOADING selects. -/
theorem State.selected_judged {b c : Fin 2} {img : Image} (hbc : b ≠ c) (hb : s.pr.store[b] = ⟨true, some ⟨img, imageCrc img⟩⟩)
    (hother : ∀ y, s.pr.store[c].judge = some y → y.generation < img.generation) : s.judged.pr.selected = some img := by
  have hvalid : s.judged.pr.banks[b] = some ⟨img.generation, img.origin⟩ := by rw [s.banks_judged, hb, Bank.judge_written]
  have hnewest : s.judged.pr.newest = some (b, ⟨img.generation, img.origin⟩) := by
    cases eq_otherBank_of_ne hbc.symm
    refine PowerUnit.newest_eq hvalid fun y hy => hother y ?_
    rwa [s.banks_judged] at hy
  have hstore : s.judged.pr.store[b] = ⟨true, some ⟨img, imageCrc img⟩⟩ := hb
  rw [PowerUnit.selected, PowerUnit.newestBank_of_newest hnewest, Option.bind_some, hstore]
  rfl

/-- A record that was timing is PARKED, and no other is (R24). -/
theorem RecordOf.parked_restored (r : SavedRecord) : (r.restored.timing.state == .parked) = match r.timing with
    | .active _ _ _ => true
    | _ => false := by
  unfold RecordOf.restored
  cases r.timing <;> rfl

end

/-- Settles O53: the banks judged, and then the image selected or the cold values. -/
theorem loadingCompletes : Obligations.LoadingCompletes := by
  refine ⟨fun b x => Bank.judge_eq_some_iff, fun s levels hsteady => ⟨fun hrstn => ?reset, fun hrstn hinvalid => ?cold,
    fun hrstn b c img hbc hb hother => ?restored⟩⟩
  case reset => exact State.exec_loadingComplete_reset levels hsteady hrstn
  case cold =>
    have hbanks := State.banks_judged_of_invalid hinvalid
    rw [State.exec_loadingComplete levels hsteady hrstn, State.loaded_of_none levels (State.selected_judged_of_invalid hinvalid)]
    refine ⟨fun hpwarn => ?_, fun hpwarn hnone => ?_⟩
    · rw [State.coldStart_eq, State.enterRun_eq (s := s.judged.cold levels) hpwarn, ← hbanks]
      rfl
    · rw [State.coldStart_held levels (s := s.judged) hpwarn hnone hbanks, ← hbanks]
      rfl
  case restored =>
    intro timed
    refine ⟨img.restoredSlots, ?_, fun i => ?_⟩
    · have htimed : (State.slotsWhere { s.judged with slots := img.restoredSlots } fun r => r.timing.state == .parked) = timed := by
        refine List.filter_congr fun i _ => ?_
        simp only [State.recordAt, Image.restoredSlots, Fin.getElem_fin, Vector.getElem_map, Option.any_map]
        cases img.slots[i].record with
        | none => rfl
        | some r => exact r.parked_restored
      rw [State.exec_loadingComplete levels hsteady hrstn, State.loaded_of_selected levels (State.selected_judged hbc hb hother),
        ← htimed]
      rfl
    · simp only [Image.restoredSlots, Fin.getElem_fin, Vector.getElem_map, true_and]
      rfl

end Sys2Proof.Machine
end
